-- ==== Sys2Proof/Word.lean ====
section
/-! DEFINITION. The machine's two word types (00_scope.md section 5: u8 and u16). -/

namespace Sys2Proof

/-- `u8`: an unsigned byte, arithmetic modulo 256. -/
abbrev Byte := BitVec 8

/-- `u16`: an unsigned 16-bit value, arithmetic modulo 65536. -/
abbrev Word := BitVec 16

end Sys2Proof
end

