-- ==== Sys2Proof/Machine/Bits.lean ====
section
/-! DEFINITION. Bit-field, extension and byte-order helpers (00_scope.md section 5, 20_memory.md R59). -/

namespace Sys2Proof.Machine

/-- `{hi, lo}`: the 16-bit value whose high byte is `hi` (R59: `lo` is the byte at the lower address). -/
def mkWord (hi lo : Byte) : Word := hi ++ lo

/-- `w[7:0]`. -/
def loByte (w : Word) : Byte := w.extractLsb' 0 8

/-- `w[15:8]`. -/
def hiByte (w : Word) : Byte := w.extractLsb' 8 8

/-- `page(a)`, the high byte of an address. -/
def page (a : Word) : Byte := hiByte a

/-- `zext_16`. -/
def zext16 (v : Byte) : Word := v.setWidth 16

/-- `sext_16`: bit 7 copied into bits 15 to 8. -/
def sext16 (v : Byte) : Word := v.signExtend 16

/-- R336, `Reverse8`: bit `k` of the result is bit `7 - k` of `b`. -/
def reverse8 (b : Byte) : Byte := b.reverse

/-- `v` with bit `k` set to `b`. -/
def putBit {w : Nat} (v : BitVec w) (k : Nat) (b : Bool) : BitVec w :=
  if b then v ||| BitVec.twoPow w k else v &&& ~~~ BitVec.twoPow w k

/-- A bit as a number. -/
def bit (b : Bool) : Nat := b.toNat

end Sys2Proof.Machine
end

