-- ==== Sys2Proof/Syntax.lean ====
section
/-! DEFINITION. The instruction set as syntax (30_encoding.md R84, R85): one constructor per legal row of
spec/opcode_table.json, named by mnemonic and mode, its field the operand as R82 assembles it; and one constructor for
the 105 ILLEGAL rows, which share one mnemonic and one rule (R421), its field the opcode byte (log entry 19). -/

namespace Sys2Proof

/-- The instructions. -/
inductive Instr where
  -- LDA (R121)
  | ldaImm (v : Byte)
  | ldaZp0 (a : Byte)
  | ldaZpx (a : Byte)
  | ldaAbs (a : Word)
  | ldaAbx (a : Word)
  | ldaAby (a : Word)
  | ldaIzx (a : Byte)
  | ldaIzy (a : Byte)
  -- LDX (R122)
  | ldxImm (v : Byte)
  | ldxZp0 (a : Byte)
  | ldxZpy (a : Byte)
  | ldxAbs (a : Word)
  | ldxAby (a : Word)
  -- LDY (R123)
  | ldyImm (v : Byte)
  | ldyZp0 (a : Byte)
  | ldyZpx (a : Byte)
  | ldyAbs (a : Word)
  | ldyAbx (a : Word)
  -- STA (R124)
  | staZp0 (a : Byte)
  | staZpx (a : Byte)
  | staAbs (a : Word)
  | staAbx (a : Word)
  | staAby (a : Word)
  | staIzx (a : Byte)
  | staIzy (a : Byte)
  -- STX (R125)
  | stxZp0 (a : Byte)
  | stxZpy (a : Byte)
  | stxAbs (a : Word)
  -- STY (R126)
  | styZp0 (a : Byte)
  | styZpx (a : Byte)
  | styAbs (a : Word)
  -- TAX (R127)
  | tax
  -- TAY (R128)
  | tay
  -- TXA (R129)
  | txa
  -- TYA (R130)
  | tya
  -- TSX (R131)
  | tsx
  -- TXS (R132)
  | txs
  -- PHA (R135)
  | pha
  -- PHP (R136)
  | php
  -- PLA (R137)
  | pla
  -- PLP (R138)
  | plp
  -- ADC (R150)
  | adcImm (v : Byte)
  | adcZp0 (a : Byte)
  | adcZpx (a : Byte)
  | adcAbs (a : Word)
  | adcAbx (a : Word)
  | adcAby (a : Word)
  | adcIzx (a : Byte)
  | adcIzy (a : Byte)
  -- SBC (R151)
  | sbcImm (v : Byte)
  | sbcZp0 (a : Byte)
  | sbcZpx (a : Byte)
  | sbcAbs (a : Word)
  | sbcAbx (a : Word)
  | sbcAby (a : Word)
  | sbcIzx (a : Byte)
  | sbcIzy (a : Byte)
  -- AND (R152)
  | andImm (v : Byte)
  | andZp0 (a : Byte)
  | andZpx (a : Byte)
  | andAbs (a : Word)
  | andAbx (a : Word)
  | andAby (a : Word)
  | andIzx (a : Byte)
  | andIzy (a : Byte)
  -- ORA (R153)
  | oraImm (v : Byte)
  | oraZp0 (a : Byte)
  | oraZpx (a : Byte)
  | oraAbs (a : Word)
  | oraAbx (a : Word)
  | oraAby (a : Word)
  | oraIzx (a : Byte)
  | oraIzy (a : Byte)
  -- EOR (R154)
  | eorImm (v : Byte)
  | eorZp0 (a : Byte)
  | eorZpx (a : Byte)
  | eorAbs (a : Word)
  | eorAbx (a : Word)
  | eorAby (a : Word)
  | eorIzx (a : Byte)
  | eorIzy (a : Byte)
  -- CMP (R155)
  | cmpImm (v : Byte)
  | cmpZp0 (a : Byte)
  | cmpZpx (a : Byte)
  | cmpAbs (a : Word)
  | cmpAbx (a : Word)
  | cmpAby (a : Word)
  | cmpIzx (a : Byte)
  | cmpIzy (a : Byte)
  -- CPX (R156)
  | cpxImm (v : Byte)
  | cpxZp0 (a : Byte)
  | cpxAbs (a : Word)
  -- CPY (R157)
  | cpyImm (v : Byte)
  | cpyZp0 (a : Byte)
  | cpyAbs (a : Word)
  -- BIT (R158)
  | bitZp0 (a : Byte)
  | bitAbs (a : Word)
  -- INC (R159)
  | incZp0 (a : Byte)
  | incZpx (a : Byte)
  | incAbs (a : Word)
  | incAbx (a : Word)
  -- DEC (R160)
  | decZp0 (a : Byte)
  | decZpx (a : Byte)
  | decAbs (a : Word)
  | decAbx (a : Word)
  -- INX (R161)
  | inx
  -- INY (R162)
  | iny
  -- DEX (R163)
  | dex
  -- DEY (R164)
  | dey
  -- ASL (R181)
  | aslAcc
  | aslZp0 (a : Byte)
  | aslZpx (a : Byte)
  | aslAbs (a : Word)
  | aslAbx (a : Word)
  -- LSR (R182)
  | lsrAcc
  | lsrZp0 (a : Byte)
  | lsrZpx (a : Byte)
  | lsrAbs (a : Word)
  | lsrAbx (a : Word)
  -- ROL (R183)
  | rolAcc
  | rolZp0 (a : Byte)
  | rolZpx (a : Byte)
  | rolAbs (a : Word)
  | rolAbx (a : Word)
  -- ROR (R184)
  | rorAcc
  | rorZp0 (a : Byte)
  | rorZpx (a : Byte)
  | rorAbs (a : Word)
  | rorAbx (a : Word)
  -- JMP (R190)
  | jmpAbs (a : Word)
  | jmpInd (a : Word)
  -- JSR (R191)
  | jsr (a : Word)
  -- RTS (R192)
  | rts
  -- BCC (R194)
  | bcc (d : Byte)
  -- BCS (R195)
  | bcs (d : Byte)
  -- BEQ (R196)
  | beq (d : Byte)
  -- BNE (R197)
  | bne (d : Byte)
  -- BMI (R198)
  | bmi (d : Byte)
  -- BPL (R199)
  | bpl (d : Byte)
  -- BVC (R200)
  | bvc (d : Byte)
  -- BVS (R201)
  | bvs (d : Byte)
  -- CLC (R210)
  | clc
  -- SEC (R211)
  | sec
  -- CLI (R212)
  | cli
  -- SEI (R213)
  | sei
  -- CLV (R214)
  | clv
  -- CLD (R215)
  | cld
  -- SED (R216)
  | sed
  -- NOP (R217)
  | nop
  -- BRK (R218)
  | brk
  -- RTI (R219)
  | rti
  -- ILLEGAL (R85, R421)
  | illegal (op : Byte)
deriving DecidableEq, Repr

end Sys2Proof
end

