-- ==== Sys2Proof/Decode.lean ====
section
/-! DEFINITION. Decoding and encoding (30_encoding.md R80 to R86). The opcode byte alone selects the instruction and its
length (R80); the decoder is total on every byte list and rejects by name a list that ends too early. -/

namespace Sys2Proof

open Machine

/-- Why a byte list holds no instruction. -/
inductive DecodeError where
  /-- The list is empty. -/
  | noByte
  /-- The opcode's operand bytes are not all there. -/
  | truncated (op : Byte)
deriving DecidableEq, Repr

/-- R83, R84: the instruction of opcode byte `op` with operand bytes `b1` and `b2` (those its format has, R81). A byte
without a row is `illegal` (R85). The 16-bit operand has its low byte first (R82, R59). -/
def ofBytes (op b1 b2 : Byte) : Instr :=
  match op.toNat with
  | 0x00 => .brk
  | 0x01 => .oraIzx b1
  | 0x05 => .oraZp0 b1
  | 0x06 => .aslZp0 b1
  | 0x08 => .php
  | 0x09 => .oraImm b1
  | 0x0A => .aslAcc
  | 0x0D => .oraAbs (mkWord b2 b1)
  | 0x0E => .aslAbs (mkWord b2 b1)
  | 0x10 => .bpl b1
  | 0x11 => .oraIzy b1
  | 0x15 => .oraZpx b1
  | 0x16 => .aslZpx b1
  | 0x18 => .clc
  | 0x19 => .oraAby (mkWord b2 b1)
  | 0x1D => .oraAbx (mkWord b2 b1)
  | 0x1E => .aslAbx (mkWord b2 b1)
  | 0x20 => .jsr (mkWord b2 b1)
  | 0x21 => .andIzx b1
  | 0x24 => .bitZp0 b1
  | 0x25 => .andZp0 b1
  | 0x26 => .rolZp0 b1
  | 0x28 => .plp
  | 0x29 => .andImm b1
  | 0x2A => .rolAcc
  | 0x2C => .bitAbs (mkWord b2 b1)
  | 0x2D => .andAbs (mkWord b2 b1)
  | 0x2E => .rolAbs (mkWord b2 b1)
  | 0x30 => .bmi b1
  | 0x31 => .andIzy b1
  | 0x35 => .andZpx b1
  | 0x36 => .rolZpx b1
  | 0x38 => .sec
  | 0x39 => .andAby (mkWord b2 b1)
  | 0x3D => .andAbx (mkWord b2 b1)
  | 0x3E => .rolAbx (mkWord b2 b1)
  | 0x40 => .rti
  | 0x41 => .eorIzx b1
  | 0x45 => .eorZp0 b1
  | 0x46 => .lsrZp0 b1
  | 0x48 => .pha
  | 0x49 => .eorImm b1
  | 0x4A => .lsrAcc
  | 0x4C => .jmpAbs (mkWord b2 b1)
  | 0x4D => .eorAbs (mkWord b2 b1)
  | 0x4E => .lsrAbs (mkWord b2 b1)
  | 0x50 => .bvc b1
  | 0x51 => .eorIzy b1
  | 0x55 => .eorZpx b1
  | 0x56 => .lsrZpx b1
  | 0x58 => .cli
  | 0x59 => .eorAby (mkWord b2 b1)
  | 0x5D => .eorAbx (mkWord b2 b1)
  | 0x5E => .lsrAbx (mkWord b2 b1)
  | 0x60 => .rts
  | 0x61 => .adcIzx b1
  | 0x65 => .adcZp0 b1
  | 0x66 => .rorZp0 b1
  | 0x68 => .pla
  | 0x69 => .adcImm b1
  | 0x6A => .rorAcc
  | 0x6C => .jmpInd (mkWord b2 b1)
  | 0x6D => .adcAbs (mkWord b2 b1)
  | 0x6E => .rorAbs (mkWord b2 b1)
  | 0x70 => .bvs b1
  | 0x71 => .adcIzy b1
  | 0x75 => .adcZpx b1
  | 0x76 => .rorZpx b1
  | 0x78 => .sei
  | 0x79 => .adcAby (mkWord b2 b1)
  | 0x7D => .adcAbx (mkWord b2 b1)
  | 0x7E => .rorAbx (mkWord b2 b1)
  | 0x81 => .staIzx b1
  | 0x84 => .styZp0 b1
  | 0x85 => .staZp0 b1
  | 0x86 => .stxZp0 b1
  | 0x88 => .dey
  | 0x8A => .txa
  | 0x8C => .styAbs (mkWord b2 b1)
  | 0x8D => .staAbs (mkWord b2 b1)
  | 0x8E => .stxAbs (mkWord b2 b1)
  | 0x90 => .bcc b1
  | 0x91 => .staIzy b1
  | 0x94 => .styZpx b1
  | 0x95 => .staZpx b1
  | 0x96 => .stxZpy b1
  | 0x98 => .tya
  | 0x99 => .staAby (mkWord b2 b1)
  | 0x9A => .txs
  | 0x9D => .staAbx (mkWord b2 b1)
  | 0xA0 => .ldyImm b1
  | 0xA1 => .ldaIzx b1
  | 0xA2 => .ldxImm b1
  | 0xA4 => .ldyZp0 b1
  | 0xA5 => .ldaZp0 b1
  | 0xA6 => .ldxZp0 b1
  | 0xA8 => .tay
  | 0xA9 => .ldaImm b1
  | 0xAA => .tax
  | 0xAC => .ldyAbs (mkWord b2 b1)
  | 0xAD => .ldaAbs (mkWord b2 b1)
  | 0xAE => .ldxAbs (mkWord b2 b1)
  | 0xB0 => .bcs b1
  | 0xB1 => .ldaIzy b1
  | 0xB4 => .ldyZpx b1
  | 0xB5 => .ldaZpx b1
  | 0xB6 => .ldxZpy b1
  | 0xB8 => .clv
  | 0xB9 => .ldaAby (mkWord b2 b1)
  | 0xBA => .tsx
  | 0xBC => .ldyAbx (mkWord b2 b1)
  | 0xBD => .ldaAbx (mkWord b2 b1)
  | 0xBE => .ldxAby (mkWord b2 b1)
  | 0xC0 => .cpyImm b1
  | 0xC1 => .cmpIzx b1
  | 0xC4 => .cpyZp0 b1
  | 0xC5 => .cmpZp0 b1
  | 0xC6 => .decZp0 b1
  | 0xC8 => .iny
  | 0xC9 => .cmpImm b1
  | 0xCA => .dex
  | 0xCC => .cpyAbs (mkWord b2 b1)
  | 0xCD => .cmpAbs (mkWord b2 b1)
  | 0xCE => .decAbs (mkWord b2 b1)
  | 0xD0 => .bne b1
  | 0xD1 => .cmpIzy b1
  | 0xD5 => .cmpZpx b1
  | 0xD6 => .decZpx b1
  | 0xD8 => .cld
  | 0xD9 => .cmpAby (mkWord b2 b1)
  | 0xDD => .cmpAbx (mkWord b2 b1)
  | 0xDE => .decAbx (mkWord b2 b1)
  | 0xE0 => .cpxImm b1
  | 0xE1 => .sbcIzx b1
  | 0xE4 => .cpxZp0 b1
  | 0xE5 => .sbcZp0 b1
  | 0xE6 => .incZp0 b1
  | 0xE8 => .inx
  | 0xE9 => .sbcImm b1
  | 0xEA => .nop
  | 0xEC => .cpxAbs (mkWord b2 b1)
  | 0xED => .sbcAbs (mkWord b2 b1)
  | 0xEE => .incAbs (mkWord b2 b1)
  | 0xF0 => .beq b1
  | 0xF1 => .sbcIzy b1
  | 0xF5 => .sbcZpx b1
  | 0xF6 => .incZpx b1
  | 0xF8 => .sed
  | 0xF9 => .sbcAby (mkWord b2 b1)
  | 0xFD => .sbcAbx (mkWord b2 b1)
  | 0xFE => .incAbx (mkWord b2 b1)
  | _ => .illegal op

/-- The opcode byte of R84's row. -/
def Instr.opcode : Instr → Byte
  | .ldaImm _ => 0xA9#8
  | .ldaZp0 _ => 0xA5#8
  | .ldaZpx _ => 0xB5#8
  | .ldaAbs _ => 0xAD#8
  | .ldaAbx _ => 0xBD#8
  | .ldaAby _ => 0xB9#8
  | .ldaIzx _ => 0xA1#8
  | .ldaIzy _ => 0xB1#8
  | .ldxImm _ => 0xA2#8
  | .ldxZp0 _ => 0xA6#8
  | .ldxZpy _ => 0xB6#8
  | .ldxAbs _ => 0xAE#8
  | .ldxAby _ => 0xBE#8
  | .ldyImm _ => 0xA0#8
  | .ldyZp0 _ => 0xA4#8
  | .ldyZpx _ => 0xB4#8
  | .ldyAbs _ => 0xAC#8
  | .ldyAbx _ => 0xBC#8
  | .staZp0 _ => 0x85#8
  | .staZpx _ => 0x95#8
  | .staAbs _ => 0x8D#8
  | .staAbx _ => 0x9D#8
  | .staAby _ => 0x99#8
  | .staIzx _ => 0x81#8
  | .staIzy _ => 0x91#8
  | .stxZp0 _ => 0x86#8
  | .stxZpy _ => 0x96#8
  | .stxAbs _ => 0x8E#8
  | .styZp0 _ => 0x84#8
  | .styZpx _ => 0x94#8
  | .styAbs _ => 0x8C#8
  | .tax => 0xAA#8
  | .tay => 0xA8#8
  | .txa => 0x8A#8
  | .tya => 0x98#8
  | .tsx => 0xBA#8
  | .txs => 0x9A#8
  | .pha => 0x48#8
  | .php => 0x08#8
  | .pla => 0x68#8
  | .plp => 0x28#8
  | .adcImm _ => 0x69#8
  | .adcZp0 _ => 0x65#8
  | .adcZpx _ => 0x75#8
  | .adcAbs _ => 0x6D#8
  | .adcAbx _ => 0x7D#8
  | .adcAby _ => 0x79#8
  | .adcIzx _ => 0x61#8
  | .adcIzy _ => 0x71#8
  | .sbcImm _ => 0xE9#8
  | .sbcZp0 _ => 0xE5#8
  | .sbcZpx _ => 0xF5#8
  | .sbcAbs _ => 0xED#8
  | .sbcAbx _ => 0xFD#8
  | .sbcAby _ => 0xF9#8
  | .sbcIzx _ => 0xE1#8
  | .sbcIzy _ => 0xF1#8
  | .andImm _ => 0x29#8
  | .andZp0 _ => 0x25#8
  | .andZpx _ => 0x35#8
  | .andAbs _ => 0x2D#8
  | .andAbx _ => 0x3D#8
  | .andAby _ => 0x39#8
  | .andIzx _ => 0x21#8
  | .andIzy _ => 0x31#8
  | .oraImm _ => 0x09#8
  | .oraZp0 _ => 0x05#8
  | .oraZpx _ => 0x15#8
  | .oraAbs _ => 0x0D#8
  | .oraAbx _ => 0x1D#8
  | .oraAby _ => 0x19#8
  | .oraIzx _ => 0x01#8
  | .oraIzy _ => 0x11#8
  | .eorImm _ => 0x49#8
  | .eorZp0 _ => 0x45#8
  | .eorZpx _ => 0x55#8
  | .eorAbs _ => 0x4D#8
  | .eorAbx _ => 0x5D#8
  | .eorAby _ => 0x59#8
  | .eorIzx _ => 0x41#8
  | .eorIzy _ => 0x51#8
  | .cmpImm _ => 0xC9#8
  | .cmpZp0 _ => 0xC5#8
  | .cmpZpx _ => 0xD5#8
  | .cmpAbs _ => 0xCD#8
  | .cmpAbx _ => 0xDD#8
  | .cmpAby _ => 0xD9#8
  | .cmpIzx _ => 0xC1#8
  | .cmpIzy _ => 0xD1#8
  | .cpxImm _ => 0xE0#8
  | .cpxZp0 _ => 0xE4#8
  | .cpxAbs _ => 0xEC#8
  | .cpyImm _ => 0xC0#8
  | .cpyZp0 _ => 0xC4#8
  | .cpyAbs _ => 0xCC#8
  | .bitZp0 _ => 0x24#8
  | .bitAbs _ => 0x2C#8
  | .incZp0 _ => 0xE6#8
  | .incZpx _ => 0xF6#8
  | .incAbs _ => 0xEE#8
  | .incAbx _ => 0xFE#8
  | .decZp0 _ => 0xC6#8
  | .decZpx _ => 0xD6#8
  | .decAbs _ => 0xCE#8
  | .decAbx _ => 0xDE#8
  | .inx => 0xE8#8
  | .iny => 0xC8#8
  | .dex => 0xCA#8
  | .dey => 0x88#8
  | .aslAcc => 0x0A#8
  | .aslZp0 _ => 0x06#8
  | .aslZpx _ => 0x16#8
  | .aslAbs _ => 0x0E#8
  | .aslAbx _ => 0x1E#8
  | .lsrAcc => 0x4A#8
  | .lsrZp0 _ => 0x46#8
  | .lsrZpx _ => 0x56#8
  | .lsrAbs _ => 0x4E#8
  | .lsrAbx _ => 0x5E#8
  | .rolAcc => 0x2A#8
  | .rolZp0 _ => 0x26#8
  | .rolZpx _ => 0x36#8
  | .rolAbs _ => 0x2E#8
  | .rolAbx _ => 0x3E#8
  | .rorAcc => 0x6A#8
  | .rorZp0 _ => 0x66#8
  | .rorZpx _ => 0x76#8
  | .rorAbs _ => 0x6E#8
  | .rorAbx _ => 0x7E#8
  | .jmpAbs _ => 0x4C#8
  | .jmpInd _ => 0x6C#8
  | .jsr _ => 0x20#8
  | .rts => 0x60#8
  | .bcc _ => 0x90#8
  | .bcs _ => 0xB0#8
  | .beq _ => 0xF0#8
  | .bne _ => 0xD0#8
  | .bmi _ => 0x30#8
  | .bpl _ => 0x10#8
  | .bvc _ => 0x50#8
  | .bvs _ => 0x70#8
  | .clc => 0x18#8
  | .sec => 0x38#8
  | .cli => 0x58#8
  | .sei => 0x78#8
  | .clv => 0xB8#8
  | .cld => 0xD8#8
  | .sed => 0xF8#8
  | .nop => 0xEA#8
  | .brk => 0x00#8
  | .rti => 0x40#8
  | .illegal op => op

/-- The operand bytes, in the order they lie in memory (R81). -/
def Instr.operandBytes : Instr → List Byte
  | .ldaImm v | .ldaZp0 v | .ldaZpx v | .ldaIzx v | .ldaIzy v | .ldxImm v | .ldxZp0 v | .ldxZpy v | .ldyImm v
  | .ldyZp0 v | .ldyZpx v | .staZp0 v | .staZpx v | .staIzx v | .staIzy v | .stxZp0 v | .stxZpy v | .styZp0 v
  | .styZpx v | .adcImm v | .adcZp0 v | .adcZpx v | .adcIzx v | .adcIzy v | .sbcImm v | .sbcZp0 v | .sbcZpx v
  | .sbcIzx v | .sbcIzy v | .andImm v | .andZp0 v | .andZpx v | .andIzx v | .andIzy v | .oraImm v | .oraZp0 v
  | .oraZpx v | .oraIzx v | .oraIzy v | .eorImm v | .eorZp0 v | .eorZpx v | .eorIzx v | .eorIzy v | .cmpImm v
  | .cmpZp0 v | .cmpZpx v | .cmpIzx v | .cmpIzy v | .cpxImm v | .cpxZp0 v | .cpyImm v | .cpyZp0 v | .bitZp0 v
  | .incZp0 v | .incZpx v | .decZp0 v | .decZpx v | .aslZp0 v | .aslZpx v | .lsrZp0 v | .lsrZpx v | .rolZp0 v
  | .rolZpx v | .rorZp0 v | .rorZpx v | .bcc v | .bcs v | .beq v | .bne v | .bmi v | .bpl v | .bvc v | .bvs v => [v]
  | .ldaAbs v | .ldaAbx v | .ldaAby v | .ldxAbs v | .ldxAby v | .ldyAbs v | .ldyAbx v | .staAbs v | .staAbx v
  | .staAby v | .stxAbs v | .styAbs v | .adcAbs v | .adcAbx v | .adcAby v | .sbcAbs v | .sbcAbx v | .sbcAby v
  | .andAbs v | .andAbx v | .andAby v | .oraAbs v | .oraAbx v | .oraAby v | .eorAbs v | .eorAbx v | .eorAby v
  | .cmpAbs v | .cmpAbx v | .cmpAby v | .cpxAbs v | .cpyAbs v | .bitAbs v | .incAbs v | .incAbx v | .decAbs v
  | .decAbx v | .aslAbs v | .aslAbx v | .lsrAbs v | .lsrAbx v | .rolAbs v | .rolAbx v | .rorAbs v | .rorAbx v
  | .jmpAbs v | .jmpInd v | .jsr v => [loByte v, hiByte v]
  | .tax | .tay | .txa | .tya | .tsx | .txs | .pha | .php | .pla | .plp | .inx | .iny | .dex | .dey | .aslAcc
  | .lsrAcc | .rolAcc | .rorAcc | .rts | .clc | .sec | .cli | .sei | .clv | .cld | .sed | .nop | .brk | .rti | .illegal _ => []

/-- Length in bytes (R81). -/
def Instr.length (i : Instr) : Nat := 1 + i.operandBytes.length

/-- R80: the length that the opcode byte alone selects. -/
def opLength (op : Byte) : Nat := (ofBytes op 0 0).length

/-- Decode the first instruction of a byte list; the rest of the list comes back with it. -/
def decode : List Byte → Except DecodeError (Instr × List Byte)
  | [] => .error .noByte
  | op :: rest =>
    match opLength op, rest with
    | 1, rest => .ok (ofBytes op 0 0, rest)
    | 2, b1 :: rest => .ok (ofBytes op b1 0, rest)
    | 3, b1 :: b2 :: rest => .ok (ofBytes op b1 b2, rest)
    | _, _ => .error (.truncated op)

/-- The bytes of an instruction as they lie in memory. -/
def encode (i : Instr) : List Byte := i.opcode :: i.operandBytes

/-- Byte `k` of an instruction numbered as spec/opcode_table.json numbers it; bits from `nbits` up are 0. -/
def tableByte (nbits w k : Nat) : Byte := BitVec.ofNat 8 (w % 2 ^ nbits / 256 ^ k)

/-- What the decoder reads from an instruction whose bits are `w`, bit 0 the least significant bit of the first byte. -/
def decodeTableWord (nbits w : Nat) : Option Instr :=
  match decode [tableByte nbits w 0, tableByte nbits w 1, tableByte nbits w 2] with
  | .ok (i, _) => some i
  | .error _ => none

end Sys2Proof
end

