-- ==== Sys2Proof/Config.lean ====
section
/-! DEFINITION. What is fixed for a machine: the parameters of 00_scope.md R6, the cartridge of 10_state.md R31, and
the free values. Parameters and cartridge are plain data that State carries and no Bus step writes. -/

namespace Sys2Proof

/-- `RAM_INIT` and `OAM_INIT` (00_scope.md R6, 70_reset_and_hazards.md R457): the contents of each memory at power-on, as
a sparse list in which a byte without a cell is `Config.unlisted`. Log entry 1. -/
structure InitialContents where
  ram : List (Nat × Byte) := []
  nt0 : List (Nat × Byte) := []
  nt1 : List (Nat × Byte) := []
  pal : List (Nat × Byte) := []
  prgRam : List (Nat × Byte) := []
  chrRam : List (Nat × Byte) := []
  oam : List (Nat × Byte) := []
deriving DecidableEq, Repr

/-- The open parameters of R6 that a step reads; the defaults are the spec's own (92_eei_decisions.md D3, D11, D27,
D32), but for `rtiDelaysIrq` and `restoresFatal`, the model's. DESIGN CHOICE, log entries 1, 10, 25 and 26. -/
structure Params where
  /-- `OPEN_BUS`: the byte of a read that nothing drives (20_memory.md R76). -/
  openBus : Byte := 0x00#8
  /-- `RESET_CYCLES`: `cycles` after reset (70_reset_and_hazards.md R451). -/
  resetCycles : Nat := 7
  /-- `MMC3_EVEN_DISABLES`: polarity of the MMC3 interrupt enable pair (49_mappers_cartridge.md R393). -/
  mmc3EvenDisables : Bool := true
  /-- Which of two rules holds where they differ: an interrupt-disable flag that RTI clears admits an IRQ from the next
  Bus step's routing on (true: 45_flags_system.md R219) or already in RTI's own step (false: 60_exceptions.md R427).
  DESIGN CHOICE, log entry 25. -/
  rtiDelaysIrq : Bool := false
  /-- Which rules hold where they differ: a restore of a saved state may clear or set the fatal status, as part of 'the
  whole state' (true: 46_bus_dma_controller.md R249), or only a reset or a load clears it and only `raise Fatal` sets it
  (false: 10_state.md R17, 60_exceptions.md R423, R441). DESIGN CHOICE, log entry 26. -/
  restoresFatal : Bool := false
  /-- `RAM_INIT`, `OAM_INIT`. -/
  initial : InitialContents := {}
deriving DecidableEq, Repr

/-- The six mapper variants of 49_mappers_cartridge.md R376; no other yields a machine (R399). -/
inductive MapperId where
  | nrom | mmc1 | uxrom | cnrom | mmc3 | gxrom
deriving DecidableEq, Repr

/-- Name-table mirroring (20_memory.md R66). -/
inductive Mirror where
  | horizontal | vertical | singleLow | singleHigh
deriving DecidableEq, Repr

/-- The header's mirroring bit (R398): horizontal or vertical only. -/
inductive HeaderMirror where
  | horizontal | vertical
deriving DecidableEq, Repr

/-- The mode a header bit stands for (R377). -/
def HeaderMirror.mode : HeaderMirror → Mirror
  | .horizontal => .horizontal
  | .vertical => .vertical

/-- The immutable cartridge configuration (10_state.md R31). An image byte not listed in `prg` or `chr` is 0x00
(a sparse writing of the whole image, log entry 2). -/
structure Cartridge where
  /-- `PRG_BANKS`, 16384-byte units, at least 1 (R399). -/
  prgBanks : Nat
  /-- `CHR_BANKS`, 8192-byte units; 0 means character RAM (R373). -/
  chrBanks : Nat
  prg : List (Nat × Byte)
  chr : List (Nat × Byte)
  mapperId : MapperId
  headerMirror : HeaderMirror
deriving DecidableEq, Repr

/-- The cartridge of State.reset: NROM, one program and one character bank, every byte 0x00.
DESIGN CHOICE, log entry 3: the spec's machine cannot run without a cartridge (R399) and no program is invented. -/
def Cartridge.blank : Cartridge :=
  { prgBanks := 1, chrBanks := 1, prg := [], chr := [], mapperId := .nrom, headerMirror := .horizontal }

/-- A colour triple of the frame (10_state.md R29). -/
structure Rgb where
  red : Byte
  green : Byte
  blue : Byte
deriving DecidableEq, Repr, Inhabited

/-- What an address without a cell reads as, in every memory and image: a way of writing contents down, not a claim
about them, since `Params.initial` gives the contents at power-on. DESIGN CHOICE, log entry 1. -/
def Config.unlisted : Byte := 0x00#8

/-- `APU_READ` (46_bus_dma_controller.md R247): the byte the external sound unit returns, free for each read. Log entry 7. -/
opaque Config.apuRead : Nat → Byte

/-- `COLOR_TABLE` (48_ppu_rendering.md R341, D31): 64 colours, none of them given. Log entry 8. -/
opaque Config.colorTable : BitVec 6 → Rgb

/-- The row offset of a vertically flipped 8 x 8 sprite whose row is above 7 (48_ppu_rendering.md R335 gives `7 - row`,
which is no row; it needs `sprite_size` to change between evaluation and pattern load): unspecified. Log entry 15. -/
opaque Config.flippedRowOpen : BitVec 14 → BitVec 14

/-- A frame pixel the PPU has not stored since reset (70_reset_and_hazards.md R454): unspecified. Log entry 9. -/
opaque Config.framePixelUnwritten : Nat → Rgb

end Sys2Proof
end

