-- ==== Sys2Proof/Machine/State.lean ====
section
/-! DEFINITION. The state of the whole block (10_state.md R10 to R33), its stop reasons, and the state after reset
(70_reset_and_hazards.md R450 to R457). Everything is plain data. -/

namespace Sys2Proof.Machine

/-- A memory: (address, byte) cells, addresses rising, no cell equal to `Config.unlisted`, which is what an address
without a cell reads as (log entry 1). `Memory.wf` in Machine/Mem.lean says so. -/
abbrev Memory := List Host.Cell

/-- The CPU's registers (R10 to R13), its outstanding-cycle counter (R15) and its working latches (R16, log entry 12). -/
structure Cpu where
  a : Byte
  x : Byte
  y : Byte
  sp : Byte
  /-- Status byte: C Z I D B U V N in bits 0 to 7 (R13). -/
  p : Byte
  pc : Word
  cycles : Nat
  opcode : Byte
  addrAbs : Word
  addrRel : Word
deriving DecidableEq, Repr

/-- Who was pushing when the stack boundary was met (R17). -/
inductive Origin where
  /-- The instruction whose opcode was fetched from this address. -/
  | instr (addr : Word)
  | nmi
  | irq
deriving DecidableEq, Repr

/-- The two fatal conditions (R17, 60_exceptions.md R421, R422). They are state, not a stop of the model (log entry 4). -/
inductive Fatal where
  | illegalOpcode (op : Byte) (addr : Word)
  | stackBoundary (origin : Origin)
deriving DecidableEq, Repr

/-- The one in-flight DMA transfer record (R21). -/
structure Dma where
  page : Byte
  offset : Byte
  data : Byte
  /-- Still in the dummy synchronisation phase. -/
  dummy : Bool
  active : Bool
deriving DecidableEq, Repr

/-- One entry of the scanline sprite buffer with its two shift registers (R27). -/
structure SpriteSlot where
  y : Byte
  id : Byte
  attr : Byte
  x : Byte
  lo : Byte
  hi : Byte
deriving DecidableEq, Repr

/-- An empty slot: entry bytes 0xFF, shifters 0 (70_reset_and_hazards.md R454, 48_ppu_rendering.md R334). -/
def SpriteSlot.empty : SpriteSlot := ⟨0xFF#8, 0xFF#8, 0xFF#8, 0xFF#8, 0x00#8, 0x00#8⟩

/-- The picture unit (R22 to R29). -/
structure Ppu where
  nt0 : Memory
  nt1 : Memory
  pal : Memory
  status : Byte
  mask : Byte
  control : Byte
  vram : BitVec 15
  tram : BitVec 15
  fineX : BitVec 3
  /-- The write toggle. -/
  latch : Bool
  dataBuffer : Byte
  bgId : Byte
  bgAttrib : Byte
  bgLsb : Byte
  bgMsb : Byte
  shPatLo : Word
  shPatHi : Word
  shAttLo : Word
  shAttHi : Word
  oam : Memory
  oamAddr : Byte
  /-- The scanline buffer, eight slots. -/
  spr : List SpriteSlot
  sprCount : Nat
  zeroPossible : Bool
  zeroRendered : Bool
  scanline : Int
  cycle : Nat
  oddFrame : Bool
  frameComplete : Bool
  /-- The interrupt request to the Bus. -/
  nmi : Bool
  /-- The pixels stored since reset: cell (256 * y + x, c), where `c` is the palette value whose colour
  `COLOR_TABLE[c]` the pixel shows (48_ppu_rendering.md R341 allows storing `c`; log entry 8). A pixel without a cell
  has not been stored (log entry 9). -/
  frame : List Host.Cell
deriving DecidableEq, Repr

/-- MMC1's registers (R30, 49_mappers_cartridge.md R379 to R382). -/
structure Mmc1 where
  shift : BitVec 5
  shiftCount : Nat
  control : BitVec 5
  chrBank0 : BitVec 5
  chrBank1 : BitVec 5
  prgBank : BitVec 5
deriving DecidableEq, Repr

/-- MMC3's registers (R30, 49_mappers_cartridge.md R387 to R395). -/
structure Mmc3 where
  target : BitVec 3
  prgMode : Bool
  chrInv : Bool
  /-- `reg[0..7]`. -/
  reg : List Byte
  mirror : Bool
  irqLatch : Byte
  irqCounter : Byte
  irqEnable : Bool
  irqActive : Bool
deriving DecidableEq, Repr

/-- The active mapper with its registers: one case per supported variant (49_mappers_cartridge.md R376). -/
inductive Mapper where
  | nrom
  | mmc1 (r : Mmc1)
  | uxrom (prgSel : BitVec 4)
  | cnrom (chrSel : Byte)
  | mmc3 (r : Mmc3)
  | gxrom (chrSel prgSel : BitVec 2)
deriving DecidableEq, Repr

/-- The two controllers (R32) and the host's button masks as they stand (46_bus_dma_controller.md R245; the masks are
the model's own fields, log entry 6). -/
structure Pads where
  strobe : Bool
  shift1 : Byte
  shift2 : Byte
  buttons1 : Byte
  buttons2 : Byte
deriving DecidableEq, Repr

/-- What the host may do between two Bus steps (46_bus_dma_controller.md R249). -/
inductive HostMove where
  /-- Change the button masks (R245). -/
  | buttons (b1 b2 : Byte)
  /-- Clear the frame-complete signal (R248). -/
  | clearFrameComplete
  /-- The reset event (60_exceptions.md R441). -/
  | reset
  /-- Load a cartridge from the bytes of its image (49_mappers_cartridge.md R398, R399). -/
  | load (image : List Byte)
  /-- Save the whole state of the block. -/
  | save
  /-- Restore the `k`-th saved state, counted from the last one saved (0), all or nothing. -/
  | restore (k : Nat)
deriving DecidableEq, Repr

/-- The state of the block with its cartridge: what the host saves and restores as a whole (10_state.md R33,
46_bus_dma_controller.md R249). -/
structure Block where
  cpu : Cpu
  fatal : Option Fatal
  ram : Memory
  /-- The Bus's cycle counter (R20, log entry 11). -/
  clk : Nat
  dma : Dma
  ppu : Ppu
  mapper : Mapper
  /-- `mirror_mode` (R31). -/
  mirror : Mirror
  prgRam : Memory
  chrRam : Memory
  cart : Cartridge
  pads : Pads
deriving DecidableEq, Repr

/-- The state of the model: the block, its parameters, and what stands between it and the sound unit and the host. -/
structure State extends Block where
  params : Params
  /-- The model's own: how many bytes the APU has been asked for (log entry 7). -/
  apuDraws : Nat
  /-- The model's own: every (address, byte) handed to the APU, the last one first (46_bus_dma_controller.md R246, log
  entry 7). -/
  apuWrites : List (Word × Byte)
  /-- The model's own: the states that the host has saved, the last one first (log entry 26). -/
  saves : List Block
  /-- The model's own: the host's moves before each of the next Bus steps (log entry 6). -/
  hostQueue : List (List HostMove)
deriving DecidableEq, Repr

/-- Why a step could end in a fault: there is no reason. The block has no stop other than its two fatal conditions,
which the spec describes whole as state and as later steps that change nothing (60_exceptions.md R423; log entry 5). -/
inductive Fault where
deriving DecidableEq, Repr

/-- Why a step is refused. -/
inductive Refusal where
  /-- The instruction has no meaning yet; raised by no arm of `exec`. Safe. -/
  | notModelled (mnemonic : String)
  /-- The state's cartridge has no program bank, so it is no configuration of the block (49_mappers_cartridge.md R399,
  93_implementation_defined.md U17: refuse); raised by `step` before anything runs. Safe. -/
  | noCartridge
deriving DecidableEq, Repr

/-- What an instruction or a step answers. -/
abbrev Out := Host.Outcome State Fault Refusal

/-- CPU registers after reset (70_reset_and_hazards.md R451), but for `pc`, which comes from the vector (R452). -/
def Cpu.reset (params : Params) (pc : Word) : Cpu :=
  { a := 0x00#8, x := 0x00#8, y := 0x00#8, sp := 0xFD#8, p := 0x24#8, pc := pc, cycles := params.resetCycles,
    opcode := 0x00#8, addrAbs := 0x0000#16, addrRel := 0x0000#16 }

/-- The DMA record after reset (R453). -/
def Dma.reset : Dma := { page := 0x00#8, offset := 0x00#8, data := 0x00#8, dummy := true, active := false }

/-- The PPU after reset (R454) with the given memory contents (R457). -/
def Ppu.reset (nt0 nt1 pal oam : Memory) : Ppu :=
  { nt0 := nt0, nt1 := nt1, pal := pal, oam := oam
    status := 0x00#8, mask := 0x00#8, control := 0x00#8, vram := 0#15, tram := 0#15, fineX := 0#3, latch := false
    dataBuffer := 0x00#8, bgId := 0x00#8, bgAttrib := 0x00#8, bgLsb := 0x00#8, bgMsb := 0x00#8
    shPatLo := 0#16, shPatHi := 0#16, shAttLo := 0#16, shAttHi := 0#16, oamAddr := 0x00#8
    spr := List.replicate 8 SpriteSlot.empty, sprCount := 0, zeroPossible := false, zeroRendered := false
    scanline := 0, cycle := 0, oddFrame := false, frameComplete := false, nmi := false, frame := [] }

/-- The machine right after reset, with the blank cartridge (log entry 3), no button pressed and no host move waiting.
Its `pc` is the blank image's reset vector (R452), whose two bytes are 0x00. -/
def State.reset : State :=
  { cpu := Cpu.reset {} 0x0000#16, fatal := none, ram := [], clk := 0, dma := Dma.reset
    ppu := Ppu.reset [] [] [] [], mapper := .nrom, mirror := .horizontal, prgRam := [], chrRam := []
    cart := Cartridge.blank, params := {}
    pads := { strobe := false, shift1 := 0x00#8, shift2 := 0x00#8, buttons1 := 0x00#8, buttons2 := 0x00#8 }
    apuDraws := 0, apuWrites := [], saves := [], hostQueue := [] }

/-! Updates of State and of the CPU record, one field each; Laws/State.lean has their projection lemmas. -/

def State.setCpu (s : State) (v : Cpu) : State := { s with cpu := v }
def State.setFatal (s : State) (v : Option Fatal) : State := { s with fatal := v }
def State.setRam (s : State) (v : Memory) : State := { s with ram := v }
def State.setClk (s : State) (v : Nat) : State := { s with clk := v }
def State.setDma (s : State) (v : Dma) : State := { s with dma := v }
def State.setPpu (s : State) (v : Ppu) : State := { s with ppu := v }
def State.setMapper (s : State) (v : Mapper) : State := { s with mapper := v }
def State.setMirror (s : State) (v : Mirror) : State := { s with mirror := v }
def State.setPrgRam (s : State) (v : Memory) : State := { s with prgRam := v }
def State.setChrRam (s : State) (v : Memory) : State := { s with chrRam := v }
def State.setCart (s : State) (v : Cartridge) : State := { s with cart := v }
def State.setParams (s : State) (v : Params) : State := { s with params := v }
def State.setPads (s : State) (v : Pads) : State := { s with pads := v }
def State.setApuDraws (s : State) (v : Nat) : State := { s with apuDraws := v }
def State.setApuWrites (s : State) (v : List (Word × Byte)) : State := { s with apuWrites := v }
def State.setSaves (s : State) (v : List Block) : State := { s with saves := v }
def State.setHostQueue (s : State) (v : List (List HostMove)) : State := { s with hostQueue := v }

/-- The whole block replaced. -/
def State.setBlock (s : State) (b : Block) : State := { s with toBlock := b }

def Cpu.setA (c : Cpu) (v : Byte) : Cpu := { c with a := v }
def Cpu.setX (c : Cpu) (v : Byte) : Cpu := { c with x := v }
def Cpu.setY (c : Cpu) (v : Byte) : Cpu := { c with y := v }
def Cpu.setSp (c : Cpu) (v : Byte) : Cpu := { c with sp := v }
def Cpu.setP (c : Cpu) (v : Byte) : Cpu := { c with p := v }
def Cpu.setPc (c : Cpu) (v : Word) : Cpu := { c with pc := v }
def Cpu.setCycles (c : Cpu) (v : Nat) : Cpu := { c with cycles := v }
def Cpu.setOpcode (c : Cpu) (v : Byte) : Cpu := { c with opcode := v }
def Cpu.setAddrAbs (c : Cpu) (v : Word) : Cpu := { c with addrAbs := v }
def Cpu.setAddrRel (c : Cpu) (v : Word) : Cpu := { c with addrRel := v }

end Sys2Proof.Machine
end

