-- ==== Sys2Proof/Machine/Mem.lean ====
section
/-! DEFINITION. Operations on memories. A memory is kept in one canonical form: addresses strictly rising, no cell equal
to what an address without a cell reads as. -/

namespace Sys2Proof.Machine

/-- The byte of the cell at `a`, if there is one. -/
def cellGet : List Host.Cell → Nat → Option Byte
  | [], _ => none
  | (k, v) :: m, a => if k = a then some v else cellGet m a

/-- The list with the cell at `a` set to `v`, in rising order. -/
def cellPut (a : Nat) (v : Byte) : List Host.Cell → List Host.Cell
  | [] => [(a, v)]
  | (k, w) :: m =>
    if a < k then (a, v) :: (k, w) :: m
    else if a = k then (a, v) :: m
    else (k, w) :: cellPut a v m

/-- The list without the cell at `a`. -/
def cellDrop (a : Nat) : List Host.Cell → List Host.Cell
  | [] => []
  | (k, w) :: m => if k = a then m else (k, w) :: cellDrop a m

/-- Are the addresses strictly rising, all above `lo` where one is given? -/
def cellsRise : Option Nat → List Host.Cell → Bool
  | _, [] => true
  | lo, (k, _) :: m => lo.all (· < k) && cellsRise (some k) m

/-- What address `a` of a memory reads as. -/
def Memory.read (m : Memory) (a : Nat) : Byte := (cellGet m a).getD Config.unlisted

/-- A write; writing the unlisted value removes the cell. -/
def Memory.write (m : Memory) (a : Nat) (v : Byte) : Memory :=
  if v = Config.unlisted then cellDrop a m else cellPut a v m

/-- The canonical form. -/
def Memory.wf (m : Memory) : Bool := cellsRise none m && m.all (fun c => c.2 != Config.unlisted)

/-- Are all cells below `n`? -/
def Memory.below (m : Memory) (n : Nat) : Bool := m.all (fun c => c.1 < n)

/-- The memory that holds `bs` from address `a` on. -/
def Memory.ofBytes : Nat → List Byte → Memory
  | _, [] => []
  | a, b :: bs => if b = Config.unlisted then Memory.ofBytes (a + 1) bs else (a, b) :: Memory.ofBytes (a + 1) bs

end Sys2Proof.Machine
end

