-- ==== Sys2Proof/Machine/Mapper.lean ====
section
/-! DEFINITION. The cartridge and the mapper family (49_mappers_cartridge.md). The translations `mapPrg` and `mapChr`
give the unreduced offsets of R378 to R396; reduction modulo the buffer is R397. -/

namespace Sys2Proof.Machine

/-- R400: the mapper registers at power-on and after reset. -/
def Mapper.powerOn : MapperId → Mapper
  | .nrom => .nrom
  | .mmc1 => .mmc1 { shift := 0#5, shiftCount := 0, control := 0x0C#5, chrBank0 := 0#5, chrBank1 := 0#5, prgBank := 0#5 }
  | .uxrom => .uxrom 0#4
  | .cnrom => .cnrom 0#8
  | .mmc3 => .mmc3 { target := 0#3, prgMode := false, chrInv := false, reg := List.replicate 8 0x00#8, mirror := false,
                     irqLatch := 0x00#8, irqCounter := 0x00#8, irqEnable := false, irqActive := false }
  | .gxrom => .gxrom 0#2 0#2

/-- The variant of a mapper. -/
def Mapper.id : Mapper → MapperId
  | .nrom => .nrom
  | .mmc1 _ => .mmc1
  | .uxrom _ => .uxrom
  | .cnrom _ => .cnrom
  | .mmc3 _ => .mmc3
  | .gxrom _ _ => .gxrom

/-- R378: NROM's fixed program mapping, also CNROM's (R386). -/
def nromPrg (prgBanks a : Nat) : Nat := if prgBanks > 1 then a % 0x8000 else a % 0x4000

/-- R383: MMC1 program translation. -/
def mmc1Prg (r : Mmc1) (prgBanks a : Nat) : Nat :=
  match (r.control.extractLsb' 2 2).toNat with
  | 2 =>
    if a < 0xC000 then a % 0x4000
    else (r.prgBank.extractLsb' 0 4).toNat * 0x4000 + a % 0x4000
  | 3 =>
    if a < 0xC000 then (r.prgBank.extractLsb' 0 4).toNat * 0x4000 + a % 0x4000
    else (prgBanks - 1) * 0x4000 + a % 0x4000
  | _ => (r.prgBank.extractLsb' 1 3).toNat * 0x8000 + a % 0x8000

/-- R384: MMC1 character translation. -/
def mmc1Chr (r : Mmc1) (a : Nat) : Nat :=
  if r.control.getLsbD 4 then
    if a < 0x1000 then r.chrBank0.toNat * 0x1000 + a % 0x1000
    else r.chrBank1.toNat * 0x1000 + a % 0x1000
  else (r.chrBank0 &&& 0x1E#5).toNat * 0x1000 + a % 0x2000

/-- `reg[k]` of MMC3. -/
def Mmc3.bank (r : Mmc3) (k : Nat) : Byte := r.reg.getD k 0x00#8

/-- R389: the 8KB program bank that MMC3 shows at `a`. -/
def mmc3PrgBank (r : Mmc3) (prgBanks a : Nat) : Nat :=
  let last := 2 * prgBanks - 1
  let b6 := (r.bank 6 &&& 0x3F#8).toNat
  let b7 := (r.bank 7 &&& 0x3F#8).toNat
  if a < 0xA000 then (if r.prgMode then last - 1 else b6)
  else if a < 0xC000 then b7
  else if a < 0xE000 then (if r.prgMode then b6 else last - 1)
  else last

/-- R390: the 1KB character bank that MMC3 shows in window `w` (0 to 7) when `chr_inv` is 0. -/
def mmc3ChrWindow (r : Mmc3) (w : Nat) : Byte :=
  match w with
  | 0 => r.bank 0 &&& 0xFE#8
  | 1 => r.bank 0 ||| 0x01#8
  | 2 => r.bank 1 &&& 0xFE#8
  | 3 => r.bank 1 ||| 0x01#8
  | 4 => r.bank 2
  | 5 => r.bank 3
  | 6 => r.bank 4
  | _ => r.bank 5

/-- R390: character inversion exchanges the two halves of the eight windows. -/
def mmc3ChrBank (r : Mmc3) (a : Nat) : Nat :=
  let w := a / 0x400 % 8
  (mmc3ChrWindow r (if r.chrInv then (w + 4) % 8 else w)).toNat

/-- `MapPrg(addr)` for `addr` in 0x8000 to 0xFFFF (R370). -/
def mapPrg (m : Mapper) (prgBanks a : Nat) : Nat :=
  match m with
  | .nrom => nromPrg prgBanks a
  | .mmc1 r => mmc1Prg r prgBanks a
  | .uxrom sel => if a < 0xC000 then sel.toNat * 0x4000 + a % 0x4000 else (prgBanks - 1) * 0x4000 + a % 0x4000
  | .cnrom _ => nromPrg prgBanks a
  | .mmc3 r => mmc3PrgBank r prgBanks a * 0x2000 + a % 0x2000
  | .gxrom _ prgSel => prgSel.toNat * 0x8000 + a % 0x8000

/-- `MapChr(addr)` for `addr` in 0x0000 to 0x1FFF (R370). -/
def mapChr (m : Mapper) (a : Nat) : Nat :=
  match m with
  | .nrom => a
  | .mmc1 r => mmc1Chr r a
  | .uxrom _ => a
  | .cnrom sel => sel.toNat * 0x2000 + a
  | .mmc3 r => mmc3ChrBank r a * 0x400 + a % 0x400
  | .gxrom chrSel _ => chrSel.toNat * 0x2000 + a

/-- R382: the mirroring mode that bits 1:0 of a loaded MMC1 control value select. -/
def mmc1Mirror (v : BitVec 5) : Mirror :=
  match (v.extractLsb' 0 2).toNat with
  | 0 => .singleLow
  | 1 => .singleHigh
  | 2 => .vertical
  | _ => .horizontal

/-- R381, R382: the fifth serial write loads the register that address bits 14:13 select. -/
def mmc1Load (r : Mmc1) (mir : Mirror) (a : Nat) (v : BitVec 5) : Mmc1 × Mirror :=
  let r := { r with shift := 0#5, shiftCount := 0 }
  if a < 0xA000 then ({ r with control := v }, mmc1Mirror v)
  else if a < 0xC000 then ({ r with chrBank0 := v }, mir)
  else if a < 0xE000 then ({ r with chrBank1 := v }, mir)
  else ({ r with prgBank := v }, mir)

/-- R379, R380: a CPU write to the MMC1 serial port. -/
def mmc1Write (r : Mmc1) (mir : Mirror) (a : Nat) (d : Byte) : Mmc1 × Mirror :=
  if d.getLsbD 7 then
    ({ r with shift := 0#5, shiftCount := 0, control := r.control ||| 0x0C#5 }, mir)
  else
    let v := putBit (r.shift >>> 1) 4 (d.getLsbD 0)
    if r.shiftCount + 1 = 5 then mmc1Load r mir a v
    else ({ r with shift := v, shiftCount := r.shiftCount + 1 }, mir)

/-- R393: disable the interrupt and withdraw a pending request. -/
def Mmc3.disable (r : Mmc3) : Mmc3 := { r with irqEnable := false, irqActive := false }

/-- R393: enable the interrupt. -/
def Mmc3.enable (r : Mmc3) : Mmc3 := { r with irqEnable := true }

/-- R387 to R393: a CPU write to an MMC3 register. -/
def mmc3Write (evenDisables : Bool) (r : Mmc3) (mir : Mirror) (a : Nat) (d : Byte) : Mmc3 × Mirror :=
  let even := a % 2 == 0
  if a < 0xA000 then
    if even then ({ r with target := d.extractLsb' 0 3, prgMode := d.getLsbD 6, chrInv := d.getLsbD 7 }, mir)
    else ({ r with reg := r.reg.set r.target.toNat d }, mir)
  else if a < 0xC000 then
    if even then ({ r with mirror := d.getLsbD 0 }, if d.getLsbD 0 then .horizontal else .vertical)
    else (r, mir)
  else if a < 0xE000 then
    if even then ({ r with irqLatch := d }, mir)
    else ({ r with irqCounter := 0x00#8 }, mir)
  else if even == evenDisables then (r.disable, mir)
  else (r.enable, mir)

/-- `RegWrite(addr, d)` for `addr` in 0x8000 to 0xFFFF: the mapper and the mirroring mode after it. -/
def regWrite (s : State) (a : Nat) (d : Byte) : State :=
  match s.mapper with
  | .nrom => s
  | .mmc1 r => let w := mmc1Write r s.mirror a d; (s.setMapper (.mmc1 w.1)).setMirror w.2
  | .uxrom _ => s.setMapper (.uxrom (d.extractLsb' 0 4))
  | .cnrom _ => s.setMapper (.cnrom (if s.cart.chrBanks = 0 then 0x00#8 else BitVec.ofNat 8 (d.toNat % s.cart.chrBanks)))
  | .mmc3 r =>
    let w := mmc3Write s.params.mmc3EvenDisables r s.mirror a d
    (s.setMapper (.mmc3 w.1)).setMirror w.2
  | .gxrom _ _ => s.setMapper (.gxrom (d.extractLsb' 0 2) (d.extractLsb' 4 2))

/-- The offset into `PRG` of a CPU address in 0x8000 to 0xFFFF, reduced modulo the image (R374, R397). -/
def prgOffset (s : State) (a : Nat) : Nat := mapPrg s.mapper s.cart.prgBanks a % (0x4000 * s.cart.prgBanks)

/-- R374: the cartridge's answer to a CPU read at 0x6000 to 0xFFFF. -/
def cartRead (s : State) (a : Nat) : Byte :=
  if a < 0x8000 then s.prgRam.read (a % 0x2000) else Memory.read s.cart.prg (prgOffset s a)

/-- R374: a CPU write at 0x6000 to 0xFFFF; the program image is never modified. -/
def cartWrite (s : State) (a : Nat) (d : Byte) : State :=
  if a < 0x8000 then s.setPrgRam (s.prgRam.write (a % 0x2000) d) else regWrite s a d

/-- R375: a PPU read at 0x0000 to 0x1FFF. -/
def cartPpuRead (s : State) (a : Nat) : Byte :=
  if s.cart.chrBanks = 0 then s.chrRam.read (mapChr s.mapper a % 0x2000)
  else Memory.read s.cart.chr (mapChr s.mapper a % (0x2000 * s.cart.chrBanks))

/-- R375: a PPU write at 0x0000 to 0x1FFF, ignored by character ROM. -/
def cartPpuWrite (s : State) (a : Nat) (d : Byte) : State :=
  if s.cart.chrBanks = 0 then s.setChrRam (s.chrRam.write (mapChr s.mapper a % 0x2000) d) else s

/-- R394: MMC3's scanline counter. -/
def Mmc3.tick (r : Mmc3) : Mmc3 :=
  let c := if r.irqCounter = 0x00#8 then r.irqLatch else r.irqCounter - 1#8
  { r with irqCounter := c, irqActive := r.irqActive || (c == 0x00#8 && r.irqEnable) }

/-- `MapperOnScanline()`: nothing but for MMC3 (R370). -/
def Mapper.onScanline : Mapper → Mapper
  | .mmc3 r => .mmc3 r.tick
  | m => m

/-- `MapperInterruptPending()` (R395). -/
def Mapper.pending : Mapper → Bool
  | .mmc3 r => r.irqActive
  | _ => false

/-- `MapperClearInterrupt()` (R395). -/
def Mapper.clearInterrupt : Mapper → Mapper
  | .mmc3 r => .mmc3 { r with irqActive := false }
  | m => m

end Sys2Proof.Machine
end

