-- ==== Sys2Proof/Machine/PpuPorts.lean ====
section
/-! DEFINITION. The picture unit's address space (20_memory.md R65 to R67), register fields and CPU-visible ports
(47_ppu_registers_memory.md R270 to R289). -/

namespace Sys2Proof.Machine

/-! Register fields. -/

/-- Control bit 2, `increment_mode` (R271), as the step of the data port (R288). -/
def Ppu.dataStep (p : Ppu) : BitVec 15 := if p.control.getLsbD 2 then 32#15 else 1#15

/-- Control bit 7, `enable_nmi` (R271). -/
def Ppu.enableNmi (p : Ppu) : Bool := p.control.getLsbD 7

/-- Control bit 5, `sprite_size` (R271). -/
def Ppu.tallSprites (p : Ppu) : Bool := p.control.getLsbD 5

/-- Mask bit 0, `grayscale` (R272). -/
def Ppu.grayscale (p : Ppu) : Bool := p.mask.getLsbD 0

/-- Mask bits 1 and 2, the left-edge enables (R272). -/
def Ppu.bgLeft (p : Ppu) : Bool := p.mask.getLsbD 1
def Ppu.sprLeft (p : Ppu) : Bool := p.mask.getLsbD 2

/-- Mask bits 3 and 4, the layer enables (R272). -/
def Ppu.renderBg (p : Ppu) : Bool := p.mask.getLsbD 3
def Ppu.renderSpr (p : Ppu) : Bool := p.mask.getLsbD 4

/-- R345. -/
def Ppu.renderingEnabled (p : Ppu) : Bool := p.renderBg || p.renderSpr

/-- Status bit numbers (R273). -/
def overflowBit : Nat := 5
def zeroHitBit : Nat := 6
def vblankBit : Nat := 7

/-! The loopy registers (R274): coarse_x 4:0, coarse_y 9:5, nametable_x 10, nametable_y 11, fine_y 14:12. -/

def coarseX (v : BitVec 15) : BitVec 5 := v.extractLsb' 0 5
def coarseY (v : BitVec 15) : BitVec 5 := v.extractLsb' 5 5
def ntX (v : BitVec 15) : BitVec 1 := v.extractLsb' 10 1
def ntY (v : BitVec 15) : BitVec 1 := v.extractLsb' 11 1
def fineY (v : BitVec 15) : BitVec 3 := v.extractLsb' 12 3

/-- A loopy register from its fields. -/
def loopy (fy : BitVec 3) (ny nx : BitVec 1) (cy cx : BitVec 5) : BitVec 15 := fy ++ ny ++ nx ++ cy ++ cx

def setCoarseX (v : BitVec 15) (x : BitVec 5) : BitVec 15 := loopy (fineY v) (ntY v) (ntX v) (coarseY v) x
def setCoarseY (v : BitVec 15) (x : BitVec 5) : BitVec 15 := loopy (fineY v) (ntY v) (ntX v) x (coarseX v)
def setNtX (v : BitVec 15) (x : BitVec 1) : BitVec 15 := loopy (fineY v) (ntY v) x (coarseY v) (coarseX v)
def setNtY (v : BitVec 15) (x : BitVec 1) : BitVec 15 := loopy (fineY v) x (ntX v) (coarseY v) (coarseX v)
def setFineY (v : BitVec 15) (x : BitVec 3) : BitVec 15 := loopy x (ntY v) (ntX v) (coarseY v) (coarseX v)

/-! The PPU's own address space. -/

/-- R66: which of the two buffers logical table `q` shows. -/
def ntTable (m : Mirror) (q : Nat) : Nat :=
  match m with
  | .vertical => q % 2
  | .horizontal => q / 2
  | .singleLow => 0
  | .singleHigh => 1

/-- R67: the palette entry of an address, with the four aliases. -/
def palIndex (a : Nat) : Nat :=
  let i := a % 0x20
  if i = 0x10 ∨ i = 0x14 ∨ i = 0x18 ∨ i = 0x1C then i - 0x10 else i

/-- R67, R289: a palette byte as it is read, masked to six bits, or to 0x30 under grayscale. -/
def palRead (p : Ppu) (a : Nat) : Byte :=
  p.pal.read (palIndex a) &&& (if p.grayscale then 0x30#8 else 0x3F#8)

/-- R66: a name-table byte. -/
def ntRead (mir : Mirror) (p : Ppu) (a : Nat) : Byte :=
  if ntTable mir (a / 0x400 % 4) = 0 then p.nt0.read (a % 0x400) else p.nt1.read (a % 0x400)

/-- R66: a name-table write. -/
def ntWrite (mir : Mirror) (p : Ppu) (a : Nat) (v : Byte) : Ppu :=
  if ntTable mir (a / 0x400 % 4) = 0 then { p with nt0 := p.nt0.write (a % 0x400) v }
  else { p with nt1 := p.nt1.write (a % 0x400) v }

/-- `PpuRead` (R65); the address is reduced to 14 bits here. -/
def ppuRead (s : State) (addr : Nat) : Byte :=
  let a := addr % 0x4000
  if a < 0x2000 then cartPpuRead s a
  else if a < 0x3F00 then ntRead s.mirror s.ppu a
  else palRead s.ppu a

/-- `PpuWrite` (R65). -/
def ppuWrite (s : State) (addr : Nat) (v : Byte) : State :=
  let a := addr % 0x4000
  if a < 0x2000 then cartPpuWrite s a v
  else if a < 0x3F00 then s.setPpu (ntWrite s.mirror s.ppu a v)
  else s.setPpu { s.ppu with pal := s.ppu.pal.write (palIndex a) v }

/-! The eight ports (R270). -/

/-- R275: write to the control port. -/
def controlWrite (p : Ppu) (d : Byte) : Ppu :=
  { p with control := d, tram := setNtY (setNtX p.tram (d.extractLsb' 0 1)) (d.extractLsb' 1 1) }

/-- R279: write to the OAM data port. -/
def oamDataWrite (p : Ppu) (d : Byte) : Ppu :=
  { p with oam := p.oam.write p.oamAddr.toNat d, oamAddr := p.oamAddr + 1#8 }

/-- R280: write to the scroll port. -/
def scrollWrite (p : Ppu) (d : Byte) : Ppu :=
  if p.latch then
    { p with tram := setCoarseY (setFineY p.tram (d.extractLsb' 0 3)) (d.extractLsb' 3 5), latch := false }
  else
    { p with fineX := d.extractLsb' 0 3, tram := setCoarseX p.tram (d.extractLsb' 3 5), latch := true }

/-- R281: write to the address port. -/
def addressWrite (p : Ppu) (d : Byte) : Ppu :=
  if p.latch then
    let t := (p.tram &&& 0x7F00#15) ||| d.setWidth 15
    { p with tram := t, vram := t, latch := false }
  else
    { p with tram := ((d &&& 0x3F#8).setWidth 15 <<< 8) ||| (p.tram &&& 0x00FF#15), latch := true }

/-- The data port's advance of `vram` (R288). -/
def Ppu.advance (p : Ppu) : Ppu := { p with vram := p.vram + p.dataStep }

/-- R282: write to the data port. -/
def dataWrite (s : State) (d : Byte) : State :=
  let s := ppuWrite s s.ppu.vram.toNat d
  s.setPpu s.ppu.advance

/-- A CPU write to port `k` (R275 to R282). -/
def portWrite (s : State) (k : Nat) (d : Byte) : State :=
  match k with
  | 0 => s.setPpu (controlWrite s.ppu d)
  | 1 => s.setPpu { s.ppu with mask := d }
  | 2 => s
  | 3 => s.setPpu { s.ppu with oamAddr := d }
  | 4 => s.setPpu (oamDataWrite s.ppu d)
  | 5 => s.setPpu (scrollWrite s.ppu d)
  | 6 => s.setPpu (addressWrite s.ppu d)
  | _ => dataWrite s d

/-- R283: read of the status port. -/
def statusRead (p : Ppu) : Byte × Ppu :=
  ((p.status &&& 0xE0#8) ||| (p.dataBuffer &&& 0x1F#8), { p with status := putBit p.status vblankBit false, latch := false })

/-- R285: read of the data port. -/
def dataRead (s : State) : Byte × State :=
  let fresh := ppuRead s s.ppu.vram.toNat
  let v := if s.ppu.vram.toNat % 0x4000 ≥ 0x3F00 then fresh else s.ppu.dataBuffer
  (v, s.setPpu { s.ppu with dataBuffer := fresh, vram := s.ppu.vram + s.ppu.dataStep })

/-- A CPU read of port `k` (R283 to R286). -/
def portRead (s : State) (k : Nat) : Byte × State :=
  match k with
  | 2 => let r := statusRead s.ppu; (r.1, s.setPpu r.2)
  | 4 => (s.ppu.oam.read s.ppu.oamAddr.toNat, s)
  | 7 => dataRead s
  | _ => (s.params.openBus, s)

end Sys2Proof.Machine
end

