-- ==== Sys2Proof/Machine/Ops.lean ====
section
/-! DEFINITION. The named operations of the CPU side: the Bus read and write (20_memory.md R51, R52), the controllers
(46_bus_dma_controller.md R242 to R244), the stack primitives (41 R133, R134), taking an exception and returning from one
(60_exceptions.md R429, 45 R218, R219), and the fatal conditions (60 R421 to R423). -/

namespace Sys2Proof.Machine

/-! Controllers. -/

/-- R242: a strobe write acts on both controllers. -/
def strobeWrite (c : Pads) (v : Byte) : Pads :=
  if c.strobe && !v.getLsbD 0 then
    { c with shift1 := c.buttons1, shift2 := c.buttons2, strobe := false }
  else { c with strobe := v.getLsbD 0 }

/-- R243: the byte a controller read returns, from the strobe, the live mask and the latch. -/
def padByte (strobe : Bool) (buttons shift : Byte) : Byte :=
  0x40#8 ||| ((if strobe then buttons else shift) &&& 0x01#8)

/-- R243: the latch after a controller read. -/
def padShift (strobe : Bool) (shift : Byte) : Byte := if strobe then shift else (shift >>> 1) ||| 0x80#8

/-- R243: read of controller 1. -/
def pad1Read (c : Pads) : Byte × Pads :=
  (padByte c.strobe c.buttons1 c.shift1, { c with shift1 := padShift c.strobe c.shift1 })

/-- R244: read of controller 2. -/
def pad2Read (c : Pads) : Byte × Pads :=
  (padByte c.strobe c.buttons2 c.shift2, { c with shift2 := padShift c.strobe c.shift2 })

/-! The Bus. -/

/-- R246: the address and the byte of a write to an APU register, handed to the sound unit. -/
def apuWrite (addr : Word) (v : Byte) (s : State) : State := s.setApuWrites ((addr, v) :: s.apuWrites)

/-- R236: a CPU write to 0x4014. -/
def startDma (d : Dma) (v : Byte) : Dma := { d with page := v, offset := 0x00#8, active := true }

/-- `MemRead(addr, 1)`: the Bus read of R51, the byte and the state after it. -/
def memRead (addr : Word) (s : State) : Byte × State :=
  let a := addr.toNat
  if a < 0x2000 then (s.ram.read (a % 0x800), s)
  else if a < 0x4000 then portRead s (a % 8)
  else if a = 0x4015 then (Config.apuRead s.apuDraws, s.setApuDraws (s.apuDraws + 1))
  else if a = 0x4016 then let r := pad1Read s.pads; (r.1, s.setPads r.2)
  else if a = 0x4017 then let r := pad2Read s.pads; (r.1, s.setPads r.2)
  else if a < 0x6000 then (s.params.openBus, s)
  else (cartRead s a, s)

/-- `MemWrite(addr, 1, v)`: the Bus write of R52. -/
def memWrite (addr : Word) (v : Byte) (s : State) : State :=
  let a := addr.toNat
  if a < 0x2000 then s.setRam (s.ram.write (a % 0x800) v)
  else if a < 0x4000 then portWrite s (a % 8) v
  else if a = 0x4014 then s.setDma (startDma s.dma v)
  else if a = 0x4016 then s.setPads (strobeWrite s.pads v)
  else if a < 0x4018 then apuWrite addr v s
  else if a < 0x6000 then s
  else cartWrite s a v

/-- `MemRead16(addr)`: two Bus reads, the low byte first (R61). -/
def memRead16 (addr : Word) (s : State) : Word × State :=
  let l := memRead addr s
  let h := memRead (addr + 1#16) l.2
  (mkWord h.1 l.1, h.2)

/-! Fatal conditions. -/

/-- `raise Fatal` (R423). -/
def raise (f : Fatal) (s : State) : State := s.setFatal (some f)

/-- The rest of a sequence, abandoned when a fatal condition has been raised (R423). -/
def andThen (s : State) (f : State → State) : State :=
  match s.fatal with
  | none => f s
  | some _ => s

/-! The stack. -/

/-- The address of the stack byte that `sp` designates (10_state.md R12). -/
def stackAddr (sp : Byte) : Word := 0x0100#16 + zext16 sp

/-- R133: `Push(v)`. -/
def push (o : Origin) (v : Byte) (s : State) : State :=
  if s.cpu.sp = 0x00#8 then raise (.stackBoundary o) s
  else
    let s := memWrite (stackAddr s.cpu.sp) v s
    s.setCpu (s.cpu.setSp (s.cpu.sp - 1#8))

/-- R134: `Pull()`. -/
def pull (s : State) : Byte × State :=
  let sp := s.cpu.sp + 1#8
  memRead (stackAddr sp) (s.setCpu (s.cpu.setSp sp))

/-- A 16-bit push, high byte first (R191, R218, R429). -/
def pushWord (o : Origin) (w : Word) (s : State) : State :=
  andThen (push o (hiByte w) s) (push o (loByte w))

/-- A 16-bit pull, low byte first (R192, R219). -/
def pullWord (s : State) : Word × State :=
  let l := pull s
  let h := pull l.2
  (mkWord h.1 l.1, h.2)

/-! Exceptions. -/

/-- Interrupt-disable, bit 2 of `P` (10_state.md R13). -/
def interruptBit : Nat := 2

/-- Bit 4 = 0 and bit 5 = 1: the status byte that interrupt entry pushes and that a pull loads (R14, R138, R219, R429). -/
def statusCanonical (v : Byte) : Byte := (v &&& 0xCF#8) ||| 0x20#8

/-- Bits 4 and 5 set: the status byte that PHP and BRK push (R14, R136, R218). -/
def statusWithBreak (v : Byte) : Byte := v ||| 0x30#8

/-- Load `PC` from a vector, low byte first (R61, R429). -/
def loadVector (vector : Word) (s : State) : State :=
  let r := memRead16 vector s
  r.2.setCpu (r.2.cpu.setPc r.1)

/-- Taking an exception (R429, R218): push `PC`, push the given status byte, set interrupt-disable, load `PC` from the
vector. A push may raise the stack boundary, which abandons the rest. -/
def takeException (o : Origin) (vector : Word) (status : Byte) (s : State) : State :=
  andThen (pushWord o s.cpu.pc s) fun s =>
  andThen (push o status s) fun s =>
  loadVector vector (s.setCpu (s.cpu.setP (putBit s.cpu.p interruptBit true)))

/-- R429: `InterruptEntry(vector)`. -/
def interruptEntry (o : Origin) (vector : Word) (s : State) : State :=
  andThen (takeException o vector (statusCanonical s.cpu.p) s) fun s => s.setCpu (s.cpu.setCycles 7)

/-- R428: `CpuNmi()`. -/
def cpuNmi (s : State) : State := interruptEntry .nmi 0xFFFA#16 s

/-- R427: `CpuIrq()`, honoured only if interrupt-disable is clear. -/
def cpuIrq (s : State) : State :=
  if s.cpu.p.getLsbD interruptBit then s else interruptEntry .irq 0xFFFE#16 s

/-- R219: the return from an exception. -/
def returnFromException (s : State) : State :=
  let v := pull s
  let s := v.2.setCpu (v.2.cpu.setP (statusCanonical v.1))
  let w := pullWord s
  w.2.setCpu (w.2.cpu.setPc w.1)

end Sys2Proof.Machine
end

