-- ==== Sys2Proof/Machine/Flags.lean ====
section
/-! DEFINITION. The flags of `P` (10_state.md R13) and every flag computation of files 41 to 43, as functions on the CPU
record. -/

namespace Sys2Proof.Machine

/-! Bit numbers of `P` (R13). -/
def carryBit : Nat := 0
def zeroBit : Nat := 1
def decimalBit : Nat := 3
def overflowFlagBit : Nat := 6
def negativeBit : Nat := 7

/-- A flag of `P`. -/
def Cpu.flag (c : Cpu) (k : Nat) : Bool := c.p.getLsbD k

/-- `P` with one flag set to `b`. -/
def Cpu.setFlag (c : Cpu) (k : Nat) (b : Bool) : Cpu := c.setP (putBit c.p k b)

/-- R120: `SetZN(v)`. -/
def Cpu.setZN (c : Cpu) (v : Byte) : Cpu := (c.setFlag zeroBit (v == 0x00#8)).setFlag negativeBit (v.getLsbD 7)

/-- The exact sum of R150 and R151, 0 to 511. -/
def sumWithCarry (a m : Byte) (c : Bool) : Nat := a.toNat + m.toNat + c.toNat

/-- R150: add `m` and the carry to `A`. The decimal flag is not read (R166). -/
def Cpu.addWithCarry (c : Cpu) (m : Byte) : Cpu :=
  let s := sumWithCarry c.a m (c.flag carryBit)
  let r : Byte := BitVec.ofNat 8 s
  (((c.setFlag carryBit (s > 255)).setFlag overflowFlagBit (((c.a ^^^ r) &&& (m ^^^ r)).getLsbD 7)).setA r).setZN r

/-- R151: SBC is ADC of the one's complement. -/
def Cpu.subtractWithBorrow (c : Cpu) (m : Byte) : Cpu := c.addWithCarry (m ^^^ 0xFF#8)

/-- R155 to R157: compare register value `r` with `m`. -/
def Cpu.compare (c : Cpu) (r m : Byte) : Cpu :=
  ((c.setFlag carryBit (m.toNat ≤ r.toNat)).setFlag zeroBit (r == m)).setFlag negativeBit ((r - m).getLsbD 7)

/-- R158: BIT. -/
def Cpu.bitTest (c : Cpu) (m : Byte) : Cpu :=
  ((c.setFlag zeroBit ((c.a &&& m) == 0x00#8)).setFlag negativeBit (m.getLsbD 7)).setFlag overflowFlagBit (m.getLsbD 6)

/-- Result `v` in `A` with Z and N. -/
def Cpu.loadA (c : Cpu) (v : Byte) : Cpu := (c.setA v).setZN v

/-- Result `v` in `X` with Z and N. -/
def Cpu.loadX (c : Cpu) (v : Byte) : Cpu := (c.setX v).setZN v

/-- Result `v` in `Y` with Z and N. -/
def Cpu.loadY (c : Cpu) (v : Byte) : Cpu := (c.setY v).setZN v

/-- A one-bit shift's flags: the bit shifted out, then Z and N of the result (R181 to R184). -/
def Cpu.shifted (c : Cpu) (out : Bool) (r : Byte) : Cpu := (c.setFlag carryBit out).setZN r

/-- R181: ASL, the result and the CPU's flags after it. -/
def Cpu.asl (c : Cpu) (m : Byte) : Byte × Cpu := let r := m <<< 1; (r, c.shifted (m.getLsbD 7) r)

/-- R182: LSR. -/
def Cpu.lsr (c : Cpu) (m : Byte) : Byte × Cpu := let r := m >>> 1; (r, c.shifted (m.getLsbD 0) r)

/-- R183: ROL. -/
def Cpu.rol (c : Cpu) (m : Byte) : Byte × Cpu :=
  let r := putBit (m <<< 1) 0 (c.flag carryBit)
  (r, c.shifted (m.getLsbD 7) r)

/-- R184: ROR. -/
def Cpu.ror (c : Cpu) (m : Byte) : Byte × Cpu :=
  let r := putBit (m >>> 1) 7 (c.flag carryBit)
  (r, c.shifted (m.getLsbD 0) r)

/-- R159: INC of a memory byte. -/
def Cpu.inc (c : Cpu) (m : Byte) : Byte × Cpu := let r := m + 1#8; (r, c.setZN r)

/-- R160: DEC of a memory byte. -/
def Cpu.dec (c : Cpu) (m : Byte) : Byte × Cpu := let r := m - 1#8; (r, c.setZN r)

end Sys2Proof.Machine
end

