-- ==== Sys2Proof/Machine/Operands.lean ====
section
/-! DEFINITION. The addressing modes (40_addressing_modes.md R100 to R115) and the shapes an instruction's meaning can
have. Every operation here runs after the fetch: `PC` already holds the address of the byte after the instruction, and the
operand bytes have been read (R100, R114; log entry 13). -/

namespace Sys2Proof.Machine

/-- An addressing mode with its operand (R101 to R112); REL is `branch` below, and IMP without an accumulator operand
needs none. -/
inductive Mode where
  /-- IMP of the accumulator forms (R101, R180). -/
  | acc
  | imm (v : Byte)
  | zp0 (a : Byte)
  | zpx (a : Byte)
  | zpy (a : Byte)
  | abs (a : Word)
  | abx (a : Word)
  | aby (a : Word)
  | ind (a : Word)
  | izx (a : Byte)
  | izy (a : Byte)
deriving DecidableEq, Repr

/-- What address resolution gives (R100): the effective address, the page-cross bit, the state after the pointer reads. -/
structure Resolved where
  addr : Word
  crossed : Bool
  st : State

/-- The resolved address, also kept in the `addr_abs` latch (R16). -/
def resolvedAt (addr : Word) (crossed : Bool) (s : State) : Resolved :=
  ⟨addr, crossed, s.setCpu (s.cpu.setAddrAbs addr)⟩

/-- R108, R109, R112: an indexed address and whether it lies in another page than its base. -/
def indexed (base : Word) (index : Byte) (s : State) : Resolved :=
  let addr := base + zext16 index
  resolvedAt addr (page addr != page base) s

/-- R111, R112: a pointer in page zero; its high byte wraps inside the page. -/
def zeroPagePointer (a : Byte) (s : State) : Word × State :=
  let l := memRead (zext16 a) s
  let h := memRead (zext16 (a + 1#8)) l.2
  (mkWord h.1 l.1, h.2)

/-- R110: the pointer of the indirect mode; its high byte comes from the pointer's own page. -/
def indirectPointer (p : Word) (s : State) : Word × State :=
  let l := memRead p s
  let h := memRead (mkWord (hiByte p) (loByte p + 1#8)) l.2
  (mkWord h.1 l.1, h.2)

/-- Address resolution (R101 to R112). -/
def resolve (m : Mode) (s : State) : Resolved :=
  match m with
  | .acc => ⟨s.cpu.addrAbs, false, s⟩
  | .imm _ => resolvedAt (s.cpu.pc - 1#16) false s
  | .zp0 a => resolvedAt (zext16 a) false s
  | .zpx a => resolvedAt (zext16 (a + s.cpu.x)) false s
  | .zpy a => resolvedAt (zext16 (a + s.cpu.y)) false s
  | .abs a => resolvedAt a false s
  | .abx a => indexed a s.cpu.x s
  | .aby a => indexed a s.cpu.y s
  | .ind p => let r := indirectPointer p s; resolvedAt r.1 false r.2
  | .izx a => let r := zeroPagePointer (a + s.cpu.x) s; resolvedAt r.1 false r.2
  | .izy a => let r := zeroPagePointer a s; indexed r.1 r.2.cpu.y r.2

/-- R113: `Operand()`, the source byte and the state after reading it. -/
def operand (m : Mode) (r : Resolved) : Byte × State :=
  match m with
  | .acc => (r.st.cpu.a, r.st)
  | .imm v => (v, r.st)
  | _ => memRead r.addr r.st

/-- R115: the total count of an instruction other than a branch. -/
def totalCycles (base : Nat) (eligible crossed : Bool) : Nat := base + (eligible && crossed).toNat

/-- The end of an instruction: `cycles` is loaded, unless a fatal condition has been raised (46 R232, 60 R423). -/
def finish (n : Nat) (s : State) : Out := .next (andThen s fun s => s.setCpu (s.cpu.setCycles n))

/-- An instruction that reads its operand and changes CPU registers only. -/
def readOp (m : Mode) (base : Nat) (eligible : Bool) (f : Cpu → Byte → Cpu) (s : State) : Out :=
  let r := resolve m s
  let v := operand m r
  finish (totalCycles base eligible r.crossed) (v.2.setCpu (f v.2.cpu v.1))

/-- A store (R124 to R126): no read at the address, no flag. -/
def storeOp (m : Mode) (base : Nat) (v : Byte) (s : State) : Out :=
  let r := resolve m s
  finish base (memWrite r.addr v r.st)

/-- R180: `WriteBack(r)`. -/
def writeBack (m : Mode) (addr : Word) (v : Byte) (s : State) : State :=
  match m with
  | .acc => s.setCpu (s.cpu.setA v)
  | _ => memWrite addr v s

/-- A read-modify-write instruction (R159, R160, R181 to R184): one read, then one write, then the flags. -/
def modifyOp (m : Mode) (base : Nat) (f : Cpu → Byte → Byte × Cpu) (s : State) : Out :=
  let r := resolve m s
  let v := operand m r
  let w := f v.2.cpu v.1
  finish base (writeBack m r.addr w.1 (v.2.setCpu w.2))

/-- An instruction of the implicit mode that changes CPU registers only. -/
def registerOp (base : Nat) (f : Cpu → Cpu) (s : State) : Out := finish base (s.setCpu (f s.cpu))

/-- R106, R193: a branch with displacement `d`, taken if `cond`. -/
def branch (cond : Bool) (d : Byte) (s : State) : Out :=
  let s := s.setCpu (s.cpu.setAddrRel (sext16 d))
  if cond then
    let target := s.cpu.pc + s.cpu.addrRel
    let penalty := if page target != page s.cpu.pc then 2 else 1
    finish (2 + penalty) (s.setCpu (s.cpu.setPc target))
  else finish 2 s

/-- The address from which the executing instruction's opcode was fetched (R17), `n` its length in bytes. -/
def instrOrigin (n : Nat) (s : State) : Origin := .instr (s.cpu.pc - BitVec.ofNat 16 n)

end Sys2Proof.Machine
end

