-- ==== Sys2Proof/Machine/Arith.lean ====
section
/-! DEFINITION. Arithmetic, logic, compare, bit test, increment and decrement (42_arithmetic_logic.md). A rule is stated once per
mnemonic; each row of 30_encoding.md R84 then gives its mode, base count and page-cross eligibility (R89, R90). -/

namespace Sys2Proof.Machine

/-- R150 ADC: add with carry. -/
def adcOp (m : Mode) (base : Nat) (e : Bool) (s : State) : Out := readOp m base e Cpu.addWithCarry s

/-- ADC IMM (0x69). -/
def execAdcImm (v : Byte) (s : State) : Out := adcOp (.imm v) 2 false s
/-- ADC ZP0 (0x65). -/
def execAdcZp0 (a : Byte) (s : State) : Out := adcOp (.zp0 a) 3 false s
/-- ADC ZPX (0x75). -/
def execAdcZpx (a : Byte) (s : State) : Out := adcOp (.zpx a) 4 false s
/-- ADC ABS (0x6D). -/
def execAdcAbs (a : Word) (s : State) : Out := adcOp (.abs a) 4 false s
/-- ADC ABX (0x7D). -/
def execAdcAbx (a : Word) (s : State) : Out := adcOp (.abx a) 4 true s
/-- ADC ABY (0x79). -/
def execAdcAby (a : Word) (s : State) : Out := adcOp (.aby a) 4 true s
/-- ADC IZX (0x61). -/
def execAdcIzx (a : Byte) (s : State) : Out := adcOp (.izx a) 6 false s
/-- ADC IZY (0x71). -/
def execAdcIzy (a : Byte) (s : State) : Out := adcOp (.izy a) 5 true s

/-- R151 SBC: subtract with borrow. -/
def sbcOp (m : Mode) (base : Nat) (e : Bool) (s : State) : Out := readOp m base e Cpu.subtractWithBorrow s

/-- SBC IMM (0xE9). -/
def execSbcImm (v : Byte) (s : State) : Out := sbcOp (.imm v) 2 false s
/-- SBC ZP0 (0xE5). -/
def execSbcZp0 (a : Byte) (s : State) : Out := sbcOp (.zp0 a) 3 false s
/-- SBC ZPX (0xF5). -/
def execSbcZpx (a : Byte) (s : State) : Out := sbcOp (.zpx a) 4 false s
/-- SBC ABS (0xED). -/
def execSbcAbs (a : Word) (s : State) : Out := sbcOp (.abs a) 4 false s
/-- SBC ABX (0xFD). -/
def execSbcAbx (a : Word) (s : State) : Out := sbcOp (.abx a) 4 true s
/-- SBC ABY (0xF9). -/
def execSbcAby (a : Word) (s : State) : Out := sbcOp (.aby a) 4 true s
/-- SBC IZX (0xE1). -/
def execSbcIzx (a : Byte) (s : State) : Out := sbcOp (.izx a) 6 false s
/-- SBC IZY (0xF1). -/
def execSbcIzy (a : Byte) (s : State) : Out := sbcOp (.izy a) 5 true s

/-- R152 AND: bitwise and. -/
def andOp (m : Mode) (base : Nat) (e : Bool) (s : State) : Out := readOp m base e (fun c v => c.loadA (c.a &&& v)) s

/-- AND IMM (0x29). -/
def execAndImm (v : Byte) (s : State) : Out := andOp (.imm v) 2 false s
/-- AND ZP0 (0x25). -/
def execAndZp0 (a : Byte) (s : State) : Out := andOp (.zp0 a) 3 false s
/-- AND ZPX (0x35). -/
def execAndZpx (a : Byte) (s : State) : Out := andOp (.zpx a) 4 false s
/-- AND ABS (0x2D). -/
def execAndAbs (a : Word) (s : State) : Out := andOp (.abs a) 4 false s
/-- AND ABX (0x3D). -/
def execAndAbx (a : Word) (s : State) : Out := andOp (.abx a) 4 true s
/-- AND ABY (0x39). -/
def execAndAby (a : Word) (s : State) : Out := andOp (.aby a) 4 true s
/-- AND IZX (0x21). -/
def execAndIzx (a : Byte) (s : State) : Out := andOp (.izx a) 6 false s
/-- AND IZY (0x31). -/
def execAndIzy (a : Byte) (s : State) : Out := andOp (.izy a) 5 true s

/-- R153 ORA: bitwise or. -/
def oraOp (m : Mode) (base : Nat) (e : Bool) (s : State) : Out := readOp m base e (fun c v => c.loadA (c.a ||| v)) s

/-- ORA IMM (0x09). -/
def execOraImm (v : Byte) (s : State) : Out := oraOp (.imm v) 2 false s
/-- ORA ZP0 (0x05). -/
def execOraZp0 (a : Byte) (s : State) : Out := oraOp (.zp0 a) 3 false s
/-- ORA ZPX (0x15). -/
def execOraZpx (a : Byte) (s : State) : Out := oraOp (.zpx a) 4 false s
/-- ORA ABS (0x0D). -/
def execOraAbs (a : Word) (s : State) : Out := oraOp (.abs a) 4 false s
/-- ORA ABX (0x1D). -/
def execOraAbx (a : Word) (s : State) : Out := oraOp (.abx a) 4 true s
/-- ORA ABY (0x19). -/
def execOraAby (a : Word) (s : State) : Out := oraOp (.aby a) 4 true s
/-- ORA IZX (0x01). -/
def execOraIzx (a : Byte) (s : State) : Out := oraOp (.izx a) 6 false s
/-- ORA IZY (0x11). -/
def execOraIzy (a : Byte) (s : State) : Out := oraOp (.izy a) 5 true s

/-- R154 EOR: bitwise exclusive or. -/
def eorOp (m : Mode) (base : Nat) (e : Bool) (s : State) : Out := readOp m base e (fun c v => c.loadA (c.a ^^^ v)) s

/-- EOR IMM (0x49). -/
def execEorImm (v : Byte) (s : State) : Out := eorOp (.imm v) 2 false s
/-- EOR ZP0 (0x45). -/
def execEorZp0 (a : Byte) (s : State) : Out := eorOp (.zp0 a) 3 false s
/-- EOR ZPX (0x55). -/
def execEorZpx (a : Byte) (s : State) : Out := eorOp (.zpx a) 4 false s
/-- EOR ABS (0x4D). -/
def execEorAbs (a : Word) (s : State) : Out := eorOp (.abs a) 4 false s
/-- EOR ABX (0x5D). -/
def execEorAbx (a : Word) (s : State) : Out := eorOp (.abx a) 4 true s
/-- EOR ABY (0x59). -/
def execEorAby (a : Word) (s : State) : Out := eorOp (.aby a) 4 true s
/-- EOR IZX (0x41). -/
def execEorIzx (a : Byte) (s : State) : Out := eorOp (.izx a) 6 false s
/-- EOR IZY (0x51). -/
def execEorIzy (a : Byte) (s : State) : Out := eorOp (.izy a) 5 true s

/-- R155 CMP: compare accumulator. -/
def cmpOp (m : Mode) (base : Nat) (e : Bool) (s : State) : Out := readOp m base e (fun c v => c.compare c.a v) s

/-- CMP IMM (0xC9). -/
def execCmpImm (v : Byte) (s : State) : Out := cmpOp (.imm v) 2 false s
/-- CMP ZP0 (0xC5). -/
def execCmpZp0 (a : Byte) (s : State) : Out := cmpOp (.zp0 a) 3 false s
/-- CMP ZPX (0xD5). -/
def execCmpZpx (a : Byte) (s : State) : Out := cmpOp (.zpx a) 4 false s
/-- CMP ABS (0xCD). -/
def execCmpAbs (a : Word) (s : State) : Out := cmpOp (.abs a) 4 false s
/-- CMP ABX (0xDD). -/
def execCmpAbx (a : Word) (s : State) : Out := cmpOp (.abx a) 4 true s
/-- CMP ABY (0xD9). -/
def execCmpAby (a : Word) (s : State) : Out := cmpOp (.aby a) 4 true s
/-- CMP IZX (0xC1). -/
def execCmpIzx (a : Byte) (s : State) : Out := cmpOp (.izx a) 6 false s
/-- CMP IZY (0xD1). -/
def execCmpIzy (a : Byte) (s : State) : Out := cmpOp (.izy a) 5 true s

/-- R156 CPX: compare X. -/
def cpxOp (m : Mode) (base : Nat) (e : Bool) (s : State) : Out := readOp m base e (fun c v => c.compare c.x v) s

/-- CPX IMM (0xE0). -/
def execCpxImm (v : Byte) (s : State) : Out := cpxOp (.imm v) 2 false s
/-- CPX ZP0 (0xE4). -/
def execCpxZp0 (a : Byte) (s : State) : Out := cpxOp (.zp0 a) 3 false s
/-- CPX ABS (0xEC). -/
def execCpxAbs (a : Word) (s : State) : Out := cpxOp (.abs a) 4 false s

/-- R157 CPY: compare Y. -/
def cpyOp (m : Mode) (base : Nat) (e : Bool) (s : State) : Out := readOp m base e (fun c v => c.compare c.y v) s

/-- CPY IMM (0xC0). -/
def execCpyImm (v : Byte) (s : State) : Out := cpyOp (.imm v) 2 false s
/-- CPY ZP0 (0xC4). -/
def execCpyZp0 (a : Byte) (s : State) : Out := cpyOp (.zp0 a) 3 false s
/-- CPY ABS (0xCC). -/
def execCpyAbs (a : Word) (s : State) : Out := cpyOp (.abs a) 4 false s

/-- R158 BIT: bit test. -/
def bitOp (m : Mode) (base : Nat) (e : Bool) (s : State) : Out := readOp m base e Cpu.bitTest s

/-- BIT ZP0 (0x24). -/
def execBitZp0 (a : Byte) (s : State) : Out := bitOp (.zp0 a) 3 false s
/-- BIT ABS (0x2C). -/
def execBitAbs (a : Word) (s : State) : Out := bitOp (.abs a) 4 false s

/-- R159 INC: increment memory. -/
def incOp (m : Mode) (base : Nat) (s : State) : Out := modifyOp m base Cpu.inc s

/-- INC ZP0 (0xE6). -/
def execIncZp0 (a : Byte) (s : State) : Out := incOp (.zp0 a) 5 s
/-- INC ZPX (0xF6). -/
def execIncZpx (a : Byte) (s : State) : Out := incOp (.zpx a) 6 s
/-- INC ABS (0xEE). -/
def execIncAbs (a : Word) (s : State) : Out := incOp (.abs a) 6 s
/-- INC ABX (0xFE). -/
def execIncAbx (a : Word) (s : State) : Out := incOp (.abx a) 7 s

/-- R160 DEC: decrement memory. -/
def decOp (m : Mode) (base : Nat) (s : State) : Out := modifyOp m base Cpu.dec s

/-- DEC ZP0 (0xC6). -/
def execDecZp0 (a : Byte) (s : State) : Out := decOp (.zp0 a) 5 s
/-- DEC ZPX (0xD6). -/
def execDecZpx (a : Byte) (s : State) : Out := decOp (.zpx a) 6 s
/-- DEC ABS (0xCE). -/
def execDecAbs (a : Word) (s : State) : Out := decOp (.abs a) 6 s
/-- DEC ABX (0xDE). -/
def execDecAbx (a : Word) (s : State) : Out := decOp (.abx a) 7 s

/-- R161 INX (0xE8): increment X. -/
def execInx (s : State) : Out := registerOp 2 (fun c => c.loadX (c.x + 1#8)) s

/-- R162 INY (0xC8): increment Y. -/
def execIny (s : State) : Out := registerOp 2 (fun c => c.loadY (c.y + 1#8)) s

/-- R163 DEX (0xCA): decrement X. -/
def execDex (s : State) : Out := registerOp 2 (fun c => c.loadX (c.x - 1#8)) s

/-- R164 DEY (0x88): decrement Y. -/
def execDey (s : State) : Out := registerOp 2 (fun c => c.loadY (c.y - 1#8)) s

end Sys2Proof.Machine
end

