-- ==== Sys2Proof/Machine/Control.lean ====
section
/-! DEFINITION. Control transfer instructions (44_control_flow.md). A rule is stated once per
mnemonic; each row of 30_encoding.md R84 then gives its mode, base count and page-cross eligibility (R89, R90). -/

namespace Sys2Proof.Machine

/-- R190 JMP: jump; nothing is read at the target. -/
def jmpOp (m : Mode) (base : Nat) (s : State) : Out :=
  let r := resolve m s
  finish base (r.st.setCpu (r.st.cpu.setPc r.addr))

/-- JMP ABS (0x4C). -/
def execJmpAbs (a : Word) (s : State) : Out := jmpOp (.abs a) 3 s
/-- JMP IND (0x6C). -/
def execJmpInd (a : Word) (s : State) : Out := jmpOp (.ind a) 5 s

/-- R191 JSR: push the address of the instruction's last byte, high byte first, and jump. -/
def jsrOp (m : Mode) (base : Nat) (s : State) : Out :=
  let r := resolve m s
  finish base <| andThen (pushWord (instrOrigin 3 s) (s.cpu.pc - 1#16) r.st) fun s => s.setCpu (s.cpu.setPc r.addr)

/-- JSR ABS (0x20). -/
def execJsr (a : Word) (s : State) : Out := jsrOp (.abs a) 6 s

/-- R192 RTS (0x60): pull the return address and add one. -/
def execRts (s : State) : Out :=
  let w := pullWord s
  finish 6 (w.2.setCpu (w.2.cpu.setPc (w.1 + 1#16)))

/-- R194 BCC (0x90): branch if carry clear. -/
def execBcc (d : Byte) (s : State) : Out := branch (!s.cpu.flag carryBit) d s

/-- R195 BCS (0xB0): branch if carry set. -/
def execBcs (d : Byte) (s : State) : Out := branch (s.cpu.flag carryBit) d s

/-- R196 BEQ (0xF0): branch if equal. -/
def execBeq (d : Byte) (s : State) : Out := branch (s.cpu.flag zeroBit) d s

/-- R197 BNE (0xD0): branch if not equal. -/
def execBne (d : Byte) (s : State) : Out := branch (!s.cpu.flag zeroBit) d s

/-- R198 BMI (0x30): branch if minus. -/
def execBmi (d : Byte) (s : State) : Out := branch (s.cpu.flag negativeBit) d s

/-- R199 BPL (0x10): branch if plus. -/
def execBpl (d : Byte) (s : State) : Out := branch (!s.cpu.flag negativeBit) d s

/-- R200 BVC (0x50): branch if overflow clear. -/
def execBvc (d : Byte) (s : State) : Out := branch (!s.cpu.flag overflowFlagBit) d s

/-- R201 BVS (0x70): branch if overflow set. -/
def execBvs (d : Byte) (s : State) : Out := branch (s.cpu.flag overflowFlagBit) d s

end Sys2Proof.Machine
end

