-- ==== Sys2Proof/Machine/LoadStore.lean ====
section
/-! DEFINITION. Load, store, transfer and stack instructions (41_load_store_transfer_stack.md). A rule is stated once per
mnemonic; each row of 30_encoding.md R84 then gives its mode, base count and page-cross eligibility (R89, R90). -/

namespace Sys2Proof.Machine

/-- R121 LDA: load accumulator. Z, N of the loaded byte. -/
def ldaOp (m : Mode) (base : Nat) (e : Bool) (s : State) : Out := readOp m base e Cpu.loadA s

/-- LDA IMM (0xA9). -/
def execLdaImm (v : Byte) (s : State) : Out := ldaOp (.imm v) 2 false s
/-- LDA ZP0 (0xA5). -/
def execLdaZp0 (a : Byte) (s : State) : Out := ldaOp (.zp0 a) 3 false s
/-- LDA ZPX (0xB5). -/
def execLdaZpx (a : Byte) (s : State) : Out := ldaOp (.zpx a) 4 false s
/-- LDA ABS (0xAD). -/
def execLdaAbs (a : Word) (s : State) : Out := ldaOp (.abs a) 4 false s
/-- LDA ABX (0xBD). -/
def execLdaAbx (a : Word) (s : State) : Out := ldaOp (.abx a) 4 true s
/-- LDA ABY (0xB9). -/
def execLdaAby (a : Word) (s : State) : Out := ldaOp (.aby a) 4 true s
/-- LDA IZX (0xA1). -/
def execLdaIzx (a : Byte) (s : State) : Out := ldaOp (.izx a) 6 false s
/-- LDA IZY (0xB1). -/
def execLdaIzy (a : Byte) (s : State) : Out := ldaOp (.izy a) 5 true s

/-- R122 LDX: load X. -/
def ldxOp (m : Mode) (base : Nat) (e : Bool) (s : State) : Out := readOp m base e Cpu.loadX s

/-- LDX IMM (0xA2). -/
def execLdxImm (v : Byte) (s : State) : Out := ldxOp (.imm v) 2 false s
/-- LDX ZP0 (0xA6). -/
def execLdxZp0 (a : Byte) (s : State) : Out := ldxOp (.zp0 a) 3 false s
/-- LDX ZPY (0xB6). -/
def execLdxZpy (a : Byte) (s : State) : Out := ldxOp (.zpy a) 4 false s
/-- LDX ABS (0xAE). -/
def execLdxAbs (a : Word) (s : State) : Out := ldxOp (.abs a) 4 false s
/-- LDX ABY (0xBE). -/
def execLdxAby (a : Word) (s : State) : Out := ldxOp (.aby a) 4 true s

/-- R123 LDY: load Y. -/
def ldyOp (m : Mode) (base : Nat) (e : Bool) (s : State) : Out := readOp m base e Cpu.loadY s

/-- LDY IMM (0xA0). -/
def execLdyImm (v : Byte) (s : State) : Out := ldyOp (.imm v) 2 false s
/-- LDY ZP0 (0xA4). -/
def execLdyZp0 (a : Byte) (s : State) : Out := ldyOp (.zp0 a) 3 false s
/-- LDY ZPX (0xB4). -/
def execLdyZpx (a : Byte) (s : State) : Out := ldyOp (.zpx a) 4 false s
/-- LDY ABS (0xAC). -/
def execLdyAbs (a : Word) (s : State) : Out := ldyOp (.abs a) 4 false s
/-- LDY ABX (0xBC). -/
def execLdyAbx (a : Word) (s : State) : Out := ldyOp (.abx a) 4 true s

/-- R124 STA: store accumulator. No flag, no read at the address. -/
def staOp (m : Mode) (base : Nat) (s : State) : Out := storeOp m base s.cpu.a s

/-- STA ZP0 (0x85). -/
def execStaZp0 (a : Byte) (s : State) : Out := staOp (.zp0 a) 3 s
/-- STA ZPX (0x95). -/
def execStaZpx (a : Byte) (s : State) : Out := staOp (.zpx a) 4 s
/-- STA ABS (0x8D). -/
def execStaAbs (a : Word) (s : State) : Out := staOp (.abs a) 4 s
/-- STA ABX (0x9D). -/
def execStaAbx (a : Word) (s : State) : Out := staOp (.abx a) 5 s
/-- STA ABY (0x99). -/
def execStaAby (a : Word) (s : State) : Out := staOp (.aby a) 5 s
/-- STA IZX (0x81). -/
def execStaIzx (a : Byte) (s : State) : Out := staOp (.izx a) 6 s
/-- STA IZY (0x91). -/
def execStaIzy (a : Byte) (s : State) : Out := staOp (.izy a) 6 s

/-- R125 STX: store X. -/
def stxOp (m : Mode) (base : Nat) (s : State) : Out := storeOp m base s.cpu.x s

/-- STX ZP0 (0x86). -/
def execStxZp0 (a : Byte) (s : State) : Out := stxOp (.zp0 a) 3 s
/-- STX ZPY (0x96). -/
def execStxZpy (a : Byte) (s : State) : Out := stxOp (.zpy a) 4 s
/-- STX ABS (0x8E). -/
def execStxAbs (a : Word) (s : State) : Out := stxOp (.abs a) 4 s

/-- R126 STY: store Y. -/
def styOp (m : Mode) (base : Nat) (s : State) : Out := storeOp m base s.cpu.y s

/-- STY ZP0 (0x84). -/
def execStyZp0 (a : Byte) (s : State) : Out := styOp (.zp0 a) 3 s
/-- STY ZPX (0x94). -/
def execStyZpx (a : Byte) (s : State) : Out := styOp (.zpx a) 4 s
/-- STY ABS (0x8C). -/
def execStyAbs (a : Word) (s : State) : Out := styOp (.abs a) 4 s

/-- R127 TAX (0xAA): transfer A to X. -/
def execTax (s : State) : Out := registerOp 2 (fun c => c.loadX c.a) s

/-- R128 TAY (0xA8): transfer A to Y. -/
def execTay (s : State) : Out := registerOp 2 (fun c => c.loadY c.a) s

/-- R129 TXA (0x8A): transfer X to A. -/
def execTxa (s : State) : Out := registerOp 2 (fun c => c.loadA c.x) s

/-- R130 TYA (0x98): transfer Y to A. -/
def execTya (s : State) : Out := registerOp 2 (fun c => c.loadA c.y) s

/-- R131 TSX (0xBA): transfer SP to X. -/
def execTsx (s : State) : Out := registerOp 2 (fun c => c.loadX c.sp) s

/-- R132 TXS (0x9A): transfer X to SP, no flag. -/
def execTxs (s : State) : Out := registerOp 2 (fun c => c.setSp c.x) s

/-- R135 PHA (0x48): push accumulator. -/
def execPha (s : State) : Out := finish 3 (push (instrOrigin 1 s) s.cpu.a s)

/-- R136 PHP (0x08): push P with bits 4 and 5 set; P itself unchanged. -/
def execPhp (s : State) : Out := finish 3 (push (instrOrigin 1 s) (statusWithBreak s.cpu.p) s)

/-- R137 PLA (0x68): pull accumulator. -/
def execPla (s : State) : Out :=
  let r := pull s
  finish 4 (r.2.setCpu (r.2.cpu.loadA r.1))

/-- R138 PLP (0x28): pull P; bits 4 and 5 of the pulled byte are ignored. -/
def execPlp (s : State) : Out :=
  let r := pull s
  finish 4 (r.2.setCpu (r.2.cpu.setP (statusCanonical r.1)))

end Sys2Proof.Machine
end

