-- ==== Sys2Proof/Machine/Shift.lean ====
section
/-! DEFINITION. Shift and rotate instructions (43_shift_rotate.md R180 to R184). A rule is stated once per
mnemonic; each row of 30_encoding.md R84 then gives its mode, base count and page-cross eligibility (R89, R90). -/

namespace Sys2Proof.Machine

/-- R181 ASL: arithmetic shift left. -/
def aslOp (m : Mode) (base : Nat) (s : State) : Out := modifyOp m base Cpu.asl s

/-- ASL A (0x0A). -/
def execAslAcc (s : State) : Out := aslOp .acc 2 s
/-- ASL ZP0 (0x06). -/
def execAslZp0 (a : Byte) (s : State) : Out := aslOp (.zp0 a) 5 s
/-- ASL ZPX (0x16). -/
def execAslZpx (a : Byte) (s : State) : Out := aslOp (.zpx a) 6 s
/-- ASL ABS (0x0E). -/
def execAslAbs (a : Word) (s : State) : Out := aslOp (.abs a) 6 s
/-- ASL ABX (0x1E). -/
def execAslAbx (a : Word) (s : State) : Out := aslOp (.abx a) 7 s

/-- R182 LSR: logical shift right. -/
def lsrOp (m : Mode) (base : Nat) (s : State) : Out := modifyOp m base Cpu.lsr s

/-- LSR A (0x4A). -/
def execLsrAcc (s : State) : Out := lsrOp .acc 2 s
/-- LSR ZP0 (0x46). -/
def execLsrZp0 (a : Byte) (s : State) : Out := lsrOp (.zp0 a) 5 s
/-- LSR ZPX (0x56). -/
def execLsrZpx (a : Byte) (s : State) : Out := lsrOp (.zpx a) 6 s
/-- LSR ABS (0x4E). -/
def execLsrAbs (a : Word) (s : State) : Out := lsrOp (.abs a) 6 s
/-- LSR ABX (0x5E). -/
def execLsrAbx (a : Word) (s : State) : Out := lsrOp (.abx a) 7 s

/-- R183 ROL: rotate left through carry. -/
def rolOp (m : Mode) (base : Nat) (s : State) : Out := modifyOp m base Cpu.rol s

/-- ROL A (0x2A). -/
def execRolAcc (s : State) : Out := rolOp .acc 2 s
/-- ROL ZP0 (0x26). -/
def execRolZp0 (a : Byte) (s : State) : Out := rolOp (.zp0 a) 5 s
/-- ROL ZPX (0x36). -/
def execRolZpx (a : Byte) (s : State) : Out := rolOp (.zpx a) 6 s
/-- ROL ABS (0x2E). -/
def execRolAbs (a : Word) (s : State) : Out := rolOp (.abs a) 6 s
/-- ROL ABX (0x3E). -/
def execRolAbx (a : Word) (s : State) : Out := rolOp (.abx a) 7 s

/-- R184 ROR: rotate right through carry. -/
def rorOp (m : Mode) (base : Nat) (s : State) : Out := modifyOp m base Cpu.ror s

/-- ROR A (0x6A). -/
def execRorAcc (s : State) : Out := rorOp .acc 2 s
/-- ROR ZP0 (0x66). -/
def execRorZp0 (a : Byte) (s : State) : Out := rorOp (.zp0 a) 5 s
/-- ROR ZPX (0x76). -/
def execRorZpx (a : Byte) (s : State) : Out := rorOp (.zpx a) 6 s
/-- ROR ABS (0x6E). -/
def execRorAbs (a : Word) (s : State) : Out := rorOp (.abs a) 6 s
/-- ROR ABX (0x7E). -/
def execRorAbx (a : Word) (s : State) : Out := rorOp (.abx a) 7 s

end Sys2Proof.Machine
end

