-- ==== Sys2Proof/Machine/System.lean ====
section
/-! DEFINITION. Flag, no-operation and system instructions (45_flags_system.md), and the illegal opcodes (60_exceptions.md R421). A rule is stated once per
mnemonic; each row of 30_encoding.md R84 then gives its mode, base count and page-cross eligibility (R89, R90). -/

namespace Sys2Proof.Machine

/-- R210 CLC (0x18): clear carry. -/
def execClc (s : State) : Out := registerOp 2 (fun c => c.setFlag carryBit false) s

/-- R211 SEC (0x38): set carry. -/
def execSec (s : State) : Out := registerOp 2 (fun c => c.setFlag carryBit true) s

/-- R212 CLI (0x58): clear interrupt-disable. -/
def execCli (s : State) : Out := registerOp 2 (fun c => c.setFlag interruptBit false) s

/-- R213 SEI (0x78): set interrupt-disable. -/
def execSei (s : State) : Out := registerOp 2 (fun c => c.setFlag interruptBit true) s

/-- R214 CLV (0xB8): clear overflow. -/
def execClv (s : State) : Out := registerOp 2 (fun c => c.setFlag overflowFlagBit false) s

/-- R215 CLD (0xD8): clear decimal. -/
def execCld (s : State) : Out := registerOp 2 (fun c => c.setFlag decimalBit false) s

/-- R216 SED (0xF8): set decimal. -/
def execSed (s : State) : Out := registerOp 2 (fun c => c.setFlag decimalBit true) s

/-- R217 NOP (0xEA): no operation: nothing but `cycles` (and `PC`, which the fetch has advanced). -/
def execNop (s : State) : Out := registerOp 2 (fun c => c) s

/-- R218 BRK (0x00): force interrupt: the padding byte is skipped, then the exception is taken through the IRQ vector with the break
bit set in the pushed status (60_exceptions.md R426). -/
def execBrk (s : State) : Out :=
  finish 7 (takeException (instrOrigin 1 s) 0xFFFE#16 (statusWithBreak s.cpu.p) (s.setCpu (s.cpu.setPc (s.cpu.pc + 1#16))))

/-- R219 RTI (0x40): return from interrupt. -/
def execRti (s : State) : Out := finish 6 (returnFromException s)

/-- R421: an illegal opcode. `PC` has been advanced past the byte; nothing else happens but the fatal status, which
records the byte and the address it was fetched from. `cycles` keeps its value (R423). -/
def execIllegal (op : Byte) (s : State) : Out := .next (raise (.illegalOpcode op (s.cpu.pc - 1#16)) s)

end Sys2Proof.Machine
end

