-- ==== Sys2Proof/Machine/Dispatch.lean ====
section
/-! DEFINITION. One arm per constructor of Instr, each a direct call of that instruction's meaning. -/

namespace Sys2Proof.Machine

def exec (i : Instr) (s : State) : Host.Outcome State Fault Refusal :=
  match i with
  | .ldaImm v => Sys2Proof.Machine.execLdaImm v s
  | .ldaZp0 a => Sys2Proof.Machine.execLdaZp0 a s
  | .ldaZpx a => Sys2Proof.Machine.execLdaZpx a s
  | .ldaAbs a => Sys2Proof.Machine.execLdaAbs a s
  | .ldaAbx a => Sys2Proof.Machine.execLdaAbx a s
  | .ldaAby a => Sys2Proof.Machine.execLdaAby a s
  | .ldaIzx a => Sys2Proof.Machine.execLdaIzx a s
  | .ldaIzy a => Sys2Proof.Machine.execLdaIzy a s
  | .ldxImm v => Sys2Proof.Machine.execLdxImm v s
  | .ldxZp0 a => Sys2Proof.Machine.execLdxZp0 a s
  | .ldxZpy a => Sys2Proof.Machine.execLdxZpy a s
  | .ldxAbs a => Sys2Proof.Machine.execLdxAbs a s
  | .ldxAby a => Sys2Proof.Machine.execLdxAby a s
  | .ldyImm v => Sys2Proof.Machine.execLdyImm v s
  | .ldyZp0 a => Sys2Proof.Machine.execLdyZp0 a s
  | .ldyZpx a => Sys2Proof.Machine.execLdyZpx a s
  | .ldyAbs a => Sys2Proof.Machine.execLdyAbs a s
  | .ldyAbx a => Sys2Proof.Machine.execLdyAbx a s
  | .staZp0 a => Sys2Proof.Machine.execStaZp0 a s
  | .staZpx a => Sys2Proof.Machine.execStaZpx a s
  | .staAbs a => Sys2Proof.Machine.execStaAbs a s
  | .staAbx a => Sys2Proof.Machine.execStaAbx a s
  | .staAby a => Sys2Proof.Machine.execStaAby a s
  | .staIzx a => Sys2Proof.Machine.execStaIzx a s
  | .staIzy a => Sys2Proof.Machine.execStaIzy a s
  | .stxZp0 a => Sys2Proof.Machine.execStxZp0 a s
  | .stxZpy a => Sys2Proof.Machine.execStxZpy a s
  | .stxAbs a => Sys2Proof.Machine.execStxAbs a s
  | .styZp0 a => Sys2Proof.Machine.execStyZp0 a s
  | .styZpx a => Sys2Proof.Machine.execStyZpx a s
  | .styAbs a => Sys2Proof.Machine.execStyAbs a s
  | .tax => Sys2Proof.Machine.execTax s
  | .tay => Sys2Proof.Machine.execTay s
  | .txa => Sys2Proof.Machine.execTxa s
  | .tya => Sys2Proof.Machine.execTya s
  | .tsx => Sys2Proof.Machine.execTsx s
  | .txs => Sys2Proof.Machine.execTxs s
  | .pha => Sys2Proof.Machine.execPha s
  | .php => Sys2Proof.Machine.execPhp s
  | .pla => Sys2Proof.Machine.execPla s
  | .plp => Sys2Proof.Machine.execPlp s
  | .adcImm v => Sys2Proof.Machine.execAdcImm v s
  | .adcZp0 a => Sys2Proof.Machine.execAdcZp0 a s
  | .adcZpx a => Sys2Proof.Machine.execAdcZpx a s
  | .adcAbs a => Sys2Proof.Machine.execAdcAbs a s
  | .adcAbx a => Sys2Proof.Machine.execAdcAbx a s
  | .adcAby a => Sys2Proof.Machine.execAdcAby a s
  | .adcIzx a => Sys2Proof.Machine.execAdcIzx a s
  | .adcIzy a => Sys2Proof.Machine.execAdcIzy a s
  | .sbcImm v => Sys2Proof.Machine.execSbcImm v s
  | .sbcZp0 a => Sys2Proof.Machine.execSbcZp0 a s
  | .sbcZpx a => Sys2Proof.Machine.execSbcZpx a s
  | .sbcAbs a => Sys2Proof.Machine.execSbcAbs a s
  | .sbcAbx a => Sys2Proof.Machine.execSbcAbx a s
  | .sbcAby a => Sys2Proof.Machine.execSbcAby a s
  | .sbcIzx a => Sys2Proof.Machine.execSbcIzx a s
  | .sbcIzy a => Sys2Proof.Machine.execSbcIzy a s
  | .andImm v => Sys2Proof.Machine.execAndImm v s
  | .andZp0 a => Sys2Proof.Machine.execAndZp0 a s
  | .andZpx a => Sys2Proof.Machine.execAndZpx a s
  | .andAbs a => Sys2Proof.Machine.execAndAbs a s
  | .andAbx a => Sys2Proof.Machine.execAndAbx a s
  | .andAby a => Sys2Proof.Machine.execAndAby a s
  | .andIzx a => Sys2Proof.Machine.execAndIzx a s
  | .andIzy a => Sys2Proof.Machine.execAndIzy a s
  | .oraImm v => Sys2Proof.Machine.execOraImm v s
  | .oraZp0 a => Sys2Proof.Machine.execOraZp0 a s
  | .oraZpx a => Sys2Proof.Machine.execOraZpx a s
  | .oraAbs a => Sys2Proof.Machine.execOraAbs a s
  | .oraAbx a => Sys2Proof.Machine.execOraAbx a s
  | .oraAby a => Sys2Proof.Machine.execOraAby a s
  | .oraIzx a => Sys2Proof.Machine.execOraIzx a s
  | .oraIzy a => Sys2Proof.Machine.execOraIzy a s
  | .eorImm v => Sys2Proof.Machine.execEorImm v s
  | .eorZp0 a => Sys2Proof.Machine.execEorZp0 a s
  | .eorZpx a => Sys2Proof.Machine.execEorZpx a s
  | .eorAbs a => Sys2Proof.Machine.execEorAbs a s
  | .eorAbx a => Sys2Proof.Machine.execEorAbx a s
  | .eorAby a => Sys2Proof.Machine.execEorAby a s
  | .eorIzx a => Sys2Proof.Machine.execEorIzx a s
  | .eorIzy a => Sys2Proof.Machine.execEorIzy a s
  | .cmpImm v => Sys2Proof.Machine.execCmpImm v s
  | .cmpZp0 a => Sys2Proof.Machine.execCmpZp0 a s
  | .cmpZpx a => Sys2Proof.Machine.execCmpZpx a s
  | .cmpAbs a => Sys2Proof.Machine.execCmpAbs a s
  | .cmpAbx a => Sys2Proof.Machine.execCmpAbx a s
  | .cmpAby a => Sys2Proof.Machine.execCmpAby a s
  | .cmpIzx a => Sys2Proof.Machine.execCmpIzx a s
  | .cmpIzy a => Sys2Proof.Machine.execCmpIzy a s
  | .cpxImm v => Sys2Proof.Machine.execCpxImm v s
  | .cpxZp0 a => Sys2Proof.Machine.execCpxZp0 a s
  | .cpxAbs a => Sys2Proof.Machine.execCpxAbs a s
  | .cpyImm v => Sys2Proof.Machine.execCpyImm v s
  | .cpyZp0 a => Sys2Proof.Machine.execCpyZp0 a s
  | .cpyAbs a => Sys2Proof.Machine.execCpyAbs a s
  | .bitZp0 a => Sys2Proof.Machine.execBitZp0 a s
  | .bitAbs a => Sys2Proof.Machine.execBitAbs a s
  | .incZp0 a => Sys2Proof.Machine.execIncZp0 a s
  | .incZpx a => Sys2Proof.Machine.execIncZpx a s
  | .incAbs a => Sys2Proof.Machine.execIncAbs a s
  | .incAbx a => Sys2Proof.Machine.execIncAbx a s
  | .decZp0 a => Sys2Proof.Machine.execDecZp0 a s
  | .decZpx a => Sys2Proof.Machine.execDecZpx a s
  | .decAbs a => Sys2Proof.Machine.execDecAbs a s
  | .decAbx a => Sys2Proof.Machine.execDecAbx a s
  | .inx => Sys2Proof.Machine.execInx s
  | .iny => Sys2Proof.Machine.execIny s
  | .dex => Sys2Proof.Machine.execDex s
  | .dey => Sys2Proof.Machine.execDey s
  | .aslAcc => Sys2Proof.Machine.execAslAcc s
  | .aslZp0 a => Sys2Proof.Machine.execAslZp0 a s
  | .aslZpx a => Sys2Proof.Machine.execAslZpx a s
  | .aslAbs a => Sys2Proof.Machine.execAslAbs a s
  | .aslAbx a => Sys2Proof.Machine.execAslAbx a s
  | .lsrAcc => Sys2Proof.Machine.execLsrAcc s
  | .lsrZp0 a => Sys2Proof.Machine.execLsrZp0 a s
  | .lsrZpx a => Sys2Proof.Machine.execLsrZpx a s
  | .lsrAbs a => Sys2Proof.Machine.execLsrAbs a s
  | .lsrAbx a => Sys2Proof.Machine.execLsrAbx a s
  | .rolAcc => Sys2Proof.Machine.execRolAcc s
  | .rolZp0 a => Sys2Proof.Machine.execRolZp0 a s
  | .rolZpx a => Sys2Proof.Machine.execRolZpx a s
  | .rolAbs a => Sys2Proof.Machine.execRolAbs a s
  | .rolAbx a => Sys2Proof.Machine.execRolAbx a s
  | .rorAcc => Sys2Proof.Machine.execRorAcc s
  | .rorZp0 a => Sys2Proof.Machine.execRorZp0 a s
  | .rorZpx a => Sys2Proof.Machine.execRorZpx a s
  | .rorAbs a => Sys2Proof.Machine.execRorAbs a s
  | .rorAbx a => Sys2Proof.Machine.execRorAbx a s
  | .jmpAbs a => Sys2Proof.Machine.execJmpAbs a s
  | .jmpInd a => Sys2Proof.Machine.execJmpInd a s
  | .jsr a => Sys2Proof.Machine.execJsr a s
  | .rts => Sys2Proof.Machine.execRts s
  | .bcc d => Sys2Proof.Machine.execBcc d s
  | .bcs d => Sys2Proof.Machine.execBcs d s
  | .beq d => Sys2Proof.Machine.execBeq d s
  | .bne d => Sys2Proof.Machine.execBne d s
  | .bmi d => Sys2Proof.Machine.execBmi d s
  | .bpl d => Sys2Proof.Machine.execBpl d s
  | .bvc d => Sys2Proof.Machine.execBvc d s
  | .bvs d => Sys2Proof.Machine.execBvs d s
  | .clc => Sys2Proof.Machine.execClc s
  | .sec => Sys2Proof.Machine.execSec s
  | .cli => Sys2Proof.Machine.execCli s
  | .sei => Sys2Proof.Machine.execSei s
  | .clv => Sys2Proof.Machine.execClv s
  | .cld => Sys2Proof.Machine.execCld s
  | .sed => Sys2Proof.Machine.execSed s
  | .nop => Sys2Proof.Machine.execNop s
  | .brk => Sys2Proof.Machine.execBrk s
  | .rti => Sys2Proof.Machine.execRti s
  | .illegal op => Sys2Proof.Machine.execIllegal op s

end Sys2Proof.Machine
end

