-- ==== Sys2Proof/Machine/Fetch.lean ====
section
/-! DEFINITION. Fetching an instruction (46_bus_dma_controller.md R232, 40_addressing_modes.md R100), and placing one where
the next Bus step fetches it. -/

namespace Sys2Proof.Machine

/-- Read the byte at `PC` and advance `PC`, modulo 65536. -/
def fetchByte (s : State) : Byte × State :=
  let r := memRead s.cpu.pc s
  (r.1, r.2.setCpu (r.2.cpu.setPc (s.cpu.pc + 1#16)))

/-- Read `n` bytes at `PC`, advancing it. -/
def fetchBytes : Nat → State → List Byte × State
  | 0, s => ([], s)
  | n + 1, s =>
    let o := fetchByte s
    let r := fetchBytes n o.2
    (o.1 :: r.1, r.2)

/-- R232: the opcode byte, latched, then the operand bytes that it selects (30_encoding.md R80). -/
def fetchInstrBytes (s : State) : List Byte × State :=
  let o := fetchByte s
  let r := fetchBytes (opLength o.1 - 1) (o.2.setCpu (o.2.cpu.setOpcode o.1))
  (o.1 :: r.1, r.2)

/-- The instruction of a fetched byte list; such a list has all the bytes its opcode needs. -/
def instrOfBytes (bs : List Byte) : Instr := ofBytes (bs.getD 0 0x00#8) (bs.getD 1 0x00#8) (bs.getD 2 0x00#8)

/-- Fetch and decode. -/
def fetch (s : State) : Instr × State :=
  let r := fetchInstrBytes s
  (instrOfBytes r.1, r.2)

/-! Placing an instruction (log entry 22). -/

/-- Can a byte be placed at CPU address `a`: RAM, add-on RAM or program image? -/
def storable (a : Word) : Bool := a.toNat < 0x2000 || a.toNat ≥ 0x6000

/-- Put a byte into what stands behind CPU address `a`, also into the program image. -/
def placeByte (a : Word) (v : Byte) (s : State) : State :=
  if a.toNat < 0x2000 then s.setRam (s.ram.write (a.toNat % 0x800) v)
  else if a.toNat < 0x8000 then s.setPrgRam (s.prgRam.write (a.toNat % 0x2000) v)
  else s.setCart { s.cart with prg := Memory.write s.cart.prg (prgOffset s a.toNat) v }

/-- The address of the placed instruction: `PC`, or 0x0200 where the bytes at `PC` belong to no memory. -/
def placeAddr (pc : Word) : Word :=
  if storable pc && storable (pc + 1#16) && storable (pc + 2#16) then pc else 0x0200#16

/-- A state whose next Bus step is a CPU slot that fetches: no host move waits, no fatal condition, no transfer, no
outstanding cycle, `clk` a multiple of 3, a cartridge present. -/
def readyToFetch (s : State) : State :=
  let s := s.setCart (if s.cart.prgBanks = 0 then Cartridge.blank else s.cart)
  let s := ((s.setHostQueue []).setFatal none).setDma { s.dma with active := false }
  (s.setClk (3 * (s.clk / 3))).setCpu ((s.cpu.setCycles 0).setPc (placeAddr s.cpu.pc))

/-- The three bytes of a table word at `PC` of a state that is ready to fetch. -/
def placeWord (nbits w : Nat) (s : State) : State :=
  let s := readyToFetch s
  let a := s.cpu.pc
  placeByte (a + 2#16) (tableByte nbits w 2) (placeByte (a + 1#16) (tableByte nbits w 1) (placeByte a (tableByte nbits w 0) s))

end Sys2Proof.Machine
end

