-- ==== Sys2Proof/Machine/PpuRender.lean ====
section
/-! DEFINITION. The PPU cycle `PpuClock` (48_ppu_rendering.md R320 to R345): background fetch, sprite evaluation and
pattern load, pixel composition, vertical blank, mapper tick and the position counters. -/

namespace Sys2Proof.Machine

/-- Apply `f` if `c`. -/
def applyIf {α : Type} (c : Bool) (f : α → α) (x : α) : α := if c then f x else x

/-- `PpuRead` at an address computed in the PPU's own 14 bits (20_memory.md R65). -/
def fetchAt (s : State) (a : BitVec 14) : Byte := ppuRead s a.toNat

/-! Positions (R320). -/

/-- Scanlines -1 to 239. -/
def Ppu.fetchLine (p : Ppu) : Bool := p.scanline ≥ -1 && p.scanline ≤ 239

/-- Scanlines 0 to 239. -/
def Ppu.visibleLine (p : Ppu) : Bool := p.scanline ≥ 0 && p.scanline ≤ 239

/-- The cycles of the fetch window (R324). -/
def Ppu.inWindow (p : Ppu) : Bool := (p.cycle ≥ 2 && p.cycle ≤ 257) || (p.cycle ≥ 321 && p.cycle ≤ 337)

/-- Is this the call for scanline `l`, cycle `c`? -/
def Ppu.at (p : Ppu) (l : Int) (c : Nat) : Bool := p.scanline == l && p.cycle == c

/-- R322: the odd-frame skip. -/
def oddSkip (p : Ppu) : Ppu :=
  if p.at 0 0 && p.oddFrame && p.renderingEnabled then { p with cycle := 1 } else p

/-- A sprite slot with its shifters cleared. -/
def SpriteSlot.clearShifters (d : SpriteSlot) : SpriteSlot := { d with lo := 0x00#8, hi := 0x00#8 }

/-- R323: the pre-render clear. -/
def preRenderClear (p : Ppu) : Ppu :=
  { p with
    status := putBit (putBit (putBit p.status vblankBit false) overflowBit false) zeroHitBit false
    spr := p.spr.map SpriteSlot.clearShifters }

/-! Shifters. -/

/-- R333, background half: one position to the left. -/
def shiftBackground (p : Ppu) : Ppu :=
  { p with shPatLo := p.shPatLo <<< 1, shPatHi := p.shPatHi <<< 1, shAttLo := p.shAttLo <<< 1, shAttHi := p.shAttHi <<< 1 }

/-- R333, one sprite slot: count its delay down, then shift. -/
def SpriteSlot.tick (d : SpriteSlot) : SpriteSlot :=
  if d.x = 0x00#8 then { d with lo := d.lo <<< 1, hi := d.hi <<< 1 } else { d with x := d.x - 1#8 }

/-- Change the slots below `sprite_count`. -/
def Ppu.mapActive (p : Ppu) (f : SpriteSlot → SpriteSlot) : Ppu :=
  { p with spr := (p.spr.take p.sprCount).map f ++ p.spr.drop p.sprCount }

/-- R333: `UpdateShifters()`. -/
def updateShifters (p : Ppu) : Ppu :=
  let p := applyIf p.renderBg shiftBackground p
  applyIf (p.renderSpr && p.cycle ≥ 1 && p.cycle ≤ 257) (fun p => p.mapActive SpriteSlot.tick) p

/-- The low byte of a background shifter replaced. -/
def putLow (w : Word) (b : Byte) : Word := (w &&& 0xFF00#16) ||| zext16 b

/-- R330: a palette-index bit spread over eight positions. -/
def spread (b : Bool) : Byte := if b then 0xFF#8 else 0x00#8

/-- R330: `LoadBackgroundShifters()`. -/
def loadBackgroundShifters (p : Ppu) : Ppu :=
  { p with
    shPatLo := putLow p.shPatLo p.bgLsb
    shPatHi := putLow p.shPatHi p.bgMsb
    shAttLo := putLow p.shAttLo (spread (p.bgAttrib.getLsbD 0))
    shAttHi := putLow p.shAttHi (spread (p.bgAttrib.getLsbD 1)) }

/-! Background fetches. -/

/-- R325: the name-table address, `0x2000 | (vram & 0x0FFF)`. -/
def nameTableAddr (v : BitVec 15) : BitVec 14 := 0x2000#14 ||| (v &&& 0x0FFF#15).setWidth 14

/-- R326: the attribute address. -/
def attributeAddr (v : BitVec 15) : BitVec 14 :=
  0x23C0#14 ||| ((ntY v).setWidth 14 <<< 11) ||| ((ntX v).setWidth 14 <<< 10)
    ||| ((coarseY v >>> 2).setWidth 14 <<< 3) ||| (coarseX v >>> 2).setWidth 14

/-- R326: the two bits of an attribute byte that serve the tile at `v`. -/
def attributeBits (v : BitVec 15) (a : Byte) : Byte :=
  let a := if (coarseY v).getLsbD 1 then a >>> 4 else a
  let a := if (coarseX v).getLsbD 1 then a >>> 2 else a
  a &&& 0x03#8

/-- R327: the address of the low plane of the current background tile row. -/
def patternBase (p : Ppu) : BitVec 14 :=
  (if p.control.getLsbD 4 then 0x1000#14 else 0#14) + (p.bgId.setWidth 14 <<< 4) + (fineY p.vram).setWidth 14

/-- R325: the name-table fetch. -/
def fetchNameTable (s : State) : State :=
  s.setPpu { s.ppu with bgId := fetchAt s (nameTableAddr s.ppu.vram) }

/-- R326: the attribute fetch. -/
def fetchAttribute (s : State) : State :=
  s.setPpu { s.ppu with bgAttrib := attributeBits s.ppu.vram (fetchAt s (attributeAddr s.ppu.vram)) }

/-- R327: the low-plane fetch. -/
def fetchLowPlane (s : State) : State := s.setPpu { s.ppu with bgLsb := fetchAt s (patternBase s.ppu) }

/-- R327: the high-plane fetch. -/
def fetchHighPlane (s : State) : State := s.setPpu { s.ppu with bgMsb := fetchAt s (patternBase s.ppu + 8#14) }

/-! Scrolling. -/

/-- R328: the horizontal advance of `vram`. -/
def nextColumn (v : BitVec 15) : BitVec 15 :=
  if coarseX v = 31#5 then setNtX (setCoarseX v 0#5) (ntX v ^^^ 1#1) else setCoarseX v (coarseX v + 1#5)

/-- R329: the vertical advance of `vram`. -/
def nextRow (v : BitVec 15) : BitVec 15 :=
  if fineY v = 7#3 then
    let v := setFineY v 0#3
    if coarseY v = 29#5 then setNtY (setCoarseY v 0#5) (ntY v ^^^ 1#1)
    else if coarseY v = 31#5 then setCoarseY v 0#5
    else setCoarseY v (coarseY v + 1#5)
  else setFineY v (fineY v + 1#3)

/-- R328: `IncrementScrollX()`. -/
def incrementScrollX (p : Ppu) : Ppu := applyIf p.renderingEnabled (fun p => { p with vram := nextColumn p.vram }) p

/-- R329: `IncrementScrollY()`. -/
def incrementScrollY (p : Ppu) : Ppu := applyIf p.renderingEnabled (fun p => { p with vram := nextRow p.vram }) p

/-- R331: `TransferAddressX()`. -/
def transferAddressX (p : Ppu) : Ppu :=
  applyIf p.renderingEnabled
    (fun p => { p with vram := setCoarseX (setNtX p.vram (ntX p.tram)) (coarseX p.tram) }) p

/-- R332: `TransferAddressY()`. -/
def transferAddressY (p : Ppu) : Ppu :=
  applyIf p.renderingEnabled
    (fun p => { p with
      vram := setCoarseY (setNtY (setFineY p.vram (fineY p.tram)) (ntY p.tram)) (coarseY p.tram) }) p

/-- A change of the PPU record alone. -/
def State.onPpu (f : Ppu → Ppu) (s : State) : State := s.setPpu (f s.ppu)

/-- R324: the action of a window cycle, by its phase. -/
def windowAction (s : State) : State :=
  match (s.ppu.cycle - 1) % 8 with
  | 0 => fetchNameTable (s.onPpu loadBackgroundShifters)
  | 2 => fetchAttribute s
  | 4 => fetchLowPlane s
  | 6 => fetchHighPlane s
  | 7 => s.onPpu incrementScrollX
  | _ => s

/-! Sprites. -/

/-- R334: 8 or 16. -/
def Ppu.spriteHeight (p : Ppu) : Int := if p.tallSprites then 16 else 8

/-- R334: does OAM entry `n` cover the line? -/
def Ppu.covers (p : Ppu) (n : Nat) : Bool :=
  let diff := p.scanline - (p.oam.read (4 * n)).toNat
  diff ≥ 0 && diff < p.spriteHeight

/-- R334: OAM entry `n` as a fresh slot. -/
def Ppu.oamSlot (p : Ppu) (n : Nat) : SpriteSlot :=
  { y := p.oam.read (4 * n), id := p.oam.read (4 * n + 1), attr := p.oam.read (4 * n + 2), x := p.oam.read (4 * n + 3)
    lo := 0x00#8, hi := 0x00#8 }

/-- R334: the OAM entries that cover the line, in order. -/
def Ppu.selected (p : Ppu) : List Nat := (List.range 64).filter p.covers

/-- R334: sprite evaluation. The ninth selected entry stops the scan and sets the overflow flag. -/
def evaluateSprites (p : Ppu) : Ppu :=
  let chosen := (p.selected.take 8).map p.oamSlot
  { p with
    spr := chosen ++ List.replicate (8 - chosen.length) SpriteSlot.empty
    sprCount := chosen.length
    zeroPossible := p.covers 0
    status := if p.selected.length > 8 then putBit p.status overflowBit true else p.status }

/-- R335: the row of a sprite that the line shows. -/
def spriteRow (p : Ppu) (d : SpriteSlot) : BitVec 14 := BitVec.ofInt 14 (p.scanline - d.y.toNat)

/-- R335: the pattern address of an 8 x 8 sprite; a flipped row above 7 is open (log entry 15). -/
def smallSpriteAddr (p : Ppu) (d : SpriteSlot) : BitVec 14 :=
  let row := spriteRow p d
  let r := if d.attr.getLsbD 7 then (if row ≤ 7#14 then 7#14 - row else Config.flippedRowOpen row) else row
  (if p.control.getLsbD 3 then 0x1000#14 else 0#14) ||| (d.id.setWidth 14 <<< 4) ||| r

/-- R335: the pattern address of an 8 x 16 sprite. -/
def tallSpriteAddr (p : Ppu) (d : SpriteSlot) : BitVec 14 :=
  let row := spriteRow p d
  let flip := d.attr.getLsbD 7
  let top := xor (decide (row < 8#14)) flip
  let tile := (d.id &&& 0xFE#8) + (if top then 0x00#8 else 0x01#8)
  let r := if flip then 7#14 - (row &&& 7#14) else row &&& 7#14
  ((d.id &&& 0x01#8).setWidth 14 <<< 12) ||| (tile.setWidth 14 <<< 4) ||| r

/-- R335: the pattern address of a selected sprite. -/
def spriteAddr (p : Ppu) (d : SpriteSlot) : BitVec 14 :=
  if p.tallSprites then tallSpriteAddr p d else smallSpriteAddr p d

/-- R335, R336: one slot's pattern load, bit-reversed when flipped horizontally. -/
def loadSlot (s : State) (d : SpriteSlot) : SpriteSlot :=
  let a := spriteAddr s.ppu d
  let lo := fetchAt s a
  let hi := fetchAt s (a + 8#14)
  if d.attr.getLsbD 6 then { d with lo := reverse8 lo, hi := reverse8 hi } else { d with lo := lo, hi := hi }

/-- R335: the sprite pattern load. -/
def loadSpritePatterns (s : State) : State := s.setPpu (s.ppu.mapActive (loadSlot s))

/-! Pixel composition. -/

/-- The two-bit number of two planes. -/
def planes (hi lo : Bool) : BitVec 2 := BitVec.ofBool hi ++ BitVec.ofBool lo

/-- R337: a background shifter's bit at the fine-x position. -/
def Ppu.muxBit (p : Ppu) (w : Word) : Bool := w.getLsbD (15 - p.fineX.toNat)

/-- R337: is the background shown at this cycle? -/
def Ppu.bgShown (p : Ppu) : Bool := p.renderBg && (p.bgLeft || p.cycle ≥ 9)

/-- R338: are sprites shown at this cycle? -/
def Ppu.sprShown (p : Ppu) : Bool := p.renderSpr && (p.sprLeft || p.cycle ≥ 9)

/-- R337: the background pixel. -/
def Ppu.bgPixel (p : Ppu) : BitVec 2 := if p.bgShown then planes (p.muxBit p.shPatHi) (p.muxBit p.shPatLo) else 0#2

/-- R337: the background palette. -/
def Ppu.bgPalette (p : Ppu) : BitVec 2 := if p.bgShown then planes (p.muxBit p.shAttHi) (p.muxBit p.shAttLo) else 0#2

/-- R338: what a slot shows now, 0 while its delay runs. -/
def SpriteSlot.pixel (d : SpriteSlot) : BitVec 2 :=
  if d.x = 0x00#8 then planes (d.hi.getLsbD 7) (d.lo.getLsbD 7) else 0#2

/-- R338: the first slot with an opaque pixel, with its number; `i` is the number of the list's first slot. -/
def firstOpaque (i : Nat) : List SpriteSlot → Option (Nat × SpriteSlot)
  | [] => none
  | d :: ds => if d.pixel = 0#2 then firstOpaque (i + 1) ds else some (i, d)

/-- R338: the foreground slot, if there is one. -/
def Ppu.foreground (p : Ppu) : Option (Nat × SpriteSlot) :=
  if p.sprShown then firstOpaque 0 (p.spr.take p.sprCount) else none

/-- R338: a sprite's palette, banks 4 to 7. -/
def SpriteSlot.palette (d : SpriteSlot) : BitVec 3 := 1#1 ++ d.attr.extractLsb' 0 2

/-- R338: does the sprite stand in front of the background? -/
def SpriteSlot.front (d : SpriteSlot) : Bool := !d.attr.getLsbD 5

/-- R339: the (palette, pixel) pair that is shown. -/
def Ppu.shownPair (p : Ppu) : BitVec 3 × BitVec 2 :=
  match p.foreground with
  | none => if p.bgPixel = 0#2 then (0#3, 0#2) else (0#1 ++ p.bgPalette, p.bgPixel)
  | some (_, d) =>
    if p.bgPixel = 0#2 || d.front then (d.palette, d.pixel) else (0#1 ++ p.bgPalette, p.bgPixel)

/-- R338: is slot 0 the one that shows an opaque pixel? -/
def Ppu.zeroShown (p : Ppu) : Bool := p.foreground.any (fun f => f.1 == 0)

/-- R340: does this pixel set the sprite-zero-hit flag? -/
def Ppu.zeroHit (p : Ppu) : Bool :=
  p.bgPixel != 0#2 && p.foreground.isSome && p.zeroPossible && p.zeroShown && p.renderBg && p.renderSpr
    && ((p.bgLeft && p.sprLeft) || p.cycle ≥ 9)

/-- R341: the palette address of a (palette, pixel) pair. -/
def paletteAddr (pair : BitVec 3 × BitVec 2) : BitVec 14 := 0x3F00#14 ||| (pair.1 ++ pair.2).setWidth 14

/-- The frame cell of pixel (x, y). -/
def pixelKey (x y : Nat) : Nat := 256 * y + x

/-- R337 to R341: compose one pixel and store it. -/
def composePixel (s : State) : State :=
  let p := s.ppu
  let c := fetchAt s (paletteAddr p.shownPair) &&& 0x3F#8
  s.setPpu { p with
    zeroRendered := p.zeroShown
    status := if p.zeroHit then putBit p.status zeroHitBit true else p.status
    frame := cellPut (pixelKey (p.cycle - 1) p.scanline.toNat) c p.frame }

/-- R341: the colour of pixel (x, y): that of the stored palette value, or open if none has been stored (log entries 8
and 9). -/
def Ppu.framePixel (p : Ppu) (x y : Nat) : Rgb :=
  match cellGet p.frame (pixelKey x y) with
  | some c => Config.colorTable (c.setWidth 6)
  | none => Config.framePixelUnwritten (pixelKey x y)

/-! The whole cycle. -/

/-- R344 A, items 1 to 8. -/
def fetchWork (s : State) : State :=
  let s := s.onPpu oddSkip
  let s := s.onPpu (fun p => applyIf (p.at (-1) 1) preRenderClear p)
  let s := applyIf s.ppu.inWindow (fun s => windowAction (s.onPpu updateShifters)) s
  let s := s.onPpu (fun p => applyIf (p.cycle == 256) incrementScrollY p)
  let s := s.onPpu (fun p => applyIf (p.cycle == 257) (fun p => transferAddressX (loadBackgroundShifters p)) p)
  let s := s.onPpu (fun p => applyIf (p.scanline == -1 && p.cycle ≥ 280 && p.cycle ≤ 304) transferAddressY p)
  let s := s.onPpu (fun p => applyIf (p.cycle == 257 && p.scanline ≥ 0) evaluateSprites p)
  applyIf (s.ppu.cycle == 340 && s.ppu.scanline ≥ 0) loadSpritePatterns s

/-- R342: vertical blank begins. -/
def beginVblank (p : Ppu) : Ppu :=
  { p with status := putBit p.status vblankBit true, nmi := p.nmi || p.enableNmi }

/-- R343: the mapper's scanline tick. -/
def mapperTick (s : State) : State := applyIf s.ppu.renderingEnabled (fun s => s.setMapper s.mapper.onScanline) s

/-- R320, R321: the position counters. -/
def advancePosition (p : Ppu) : Ppu :=
  if p.cycle + 1 > 340 then
    if p.scanline + 1 > 260 then
      { p with cycle := 0, scanline := -1, frameComplete := true, oddFrame := !p.oddFrame }
    else { p with cycle := 0, scanline := p.scanline + 1 }
  else { p with cycle := p.cycle + 1 }

/-- R344: `PpuClock()`. -/
def ppuClock (s : State) : State :=
  let s := applyIf s.ppu.fetchLine fetchWork s
  let s := s.onPpu (fun p => applyIf (p.at 241 1) beginVblank p)
  let s := applyIf (s.ppu.visibleLine && s.ppu.cycle ≥ 1 && s.ppu.cycle ≤ 256) composePixel s
  let s := applyIf (s.ppu.fetchLine && s.ppu.cycle == 260) mapperTick s
  s.onPpu advancePosition

end Sys2Proof.Machine
end

