-- ==== Sys2Proof/Machine/HostMoves.lean ====
section
/-! DEFINITION. Reset and power-on (70_reset_and_hazards.md R450 to R457), the image loader (49_mappers_cartridge.md
R398, R399) and the host's moves between Bus steps (46_bus_dma_controller.md R248, R249). -/

namespace Sys2Proof.Machine

/-! Initialisation. -/

/-- R455, R400: the cartridge side after either event; its RAMs hold `RAM_INIT` again. -/
def initCartridge (s : State) : State :=
  let m := s.params.initial
  (((s.setMapper (Mapper.powerOn s.cart.mapperId)).setMirror s.cart.headerMirror.mode).setPrgRam m.prgRam).setChrRam m.chrRam

/-- R456: the controllers; the host's button masks are no state of the block and stay. -/
def initPads (s : State) : State :=
  s.setPads { s.pads with strobe := false, shift1 := 0x00#8, shift2 := 0x00#8 }

/-- R454, R457: the PPU's registers; its memories keep their contents. -/
def initPpu (s : State) : State := s.setPpu (Ppu.reset s.ppu.nt0 s.ppu.nt1 s.ppu.pal s.ppu.oam)

/-- R453: the Bus. -/
def initBus (s : State) : State := (s.setClk 0).setDma Dma.reset

/-- R451, R452: the CPU, its `pc` read from the reset vector through the Bus. -/
def initCpu (s : State) : State :=
  let v := memRead16 0xFFFC#16 s
  (v.2.setCpu (Cpu.reset s.params v.1)).setFatal none

/-- R450: the reset event. -/
def warmReset (s : State) : State := initCpu (initBus (initPpu (initPads (initCartridge s))))

/-- R457: the memories that a reset keeps and that hold `RAM_INIT` and `OAM_INIT` at power-on. -/
def initMemories (s : State) : State :=
  let m := s.params.initial
  (s.setRam m.ram).setPpu { s.ppu with nt0 := m.nt0, nt1 := m.nt1, pal := m.pal, oam := m.oam }

/-- R450: power-on with cartridge `c`. -/
def powerOn (c : Cartridge) (s : State) : State := warmReset (initMemories (s.setCart c))

/-! The image loader. -/

/-- Why an image is not loaded (R399, log entry 18). -/
inductive LoadError where
  | badSignature
  | unknownMapper
  | noProgramBank
  | trainer
  | truncated
deriving DecidableEq, Repr

/-- R376: the variant of a mapper number. -/
def mapperOfNumber (n : Nat) : Option MapperId :=
  match n with
  | 0 => some .nrom
  | 1 => some .mmc1
  | 2 => some .uxrom
  | 3 => some .cnrom
  | 4 => some .mmc3
  | 66 => some .gxrom
  | _ => none

/-- R398: `MAPPER_ID`, from bytes 6 and 7 of the header. -/
def headerMapper (flags6 flags7 : Byte) : Nat := ((flags7 &&& 0xF0#8) ||| (flags6 >>> 4)).toNat

/-- R398: header bytes 4 to 7 and the bytes after the header, as a cartridge. -/
def loadBody (prgBanks chrBanks : Nat) (flags6 flags7 : Byte) (body : List Byte) : Except LoadError Cartridge :=
  match mapperOfNumber (headerMapper flags6 flags7) with
  | none => .error .unknownMapper
  | some id =>
    if prgBanks = 0 then .error .noProgramBank
    else if flags6.getLsbD 2 then .error .trainer
    else if body.length < 0x4000 * prgBanks + 0x2000 * chrBanks then .error .truncated
    else .ok {
      prgBanks := prgBanks
      chrBanks := chrBanks
      prg := Memory.ofBytes 0 (body.take (0x4000 * prgBanks))
      chr := Memory.ofBytes 0 ((body.drop (0x4000 * prgBanks)).take (0x2000 * chrBanks))
      mapperId := id
      headerMirror := if flags6.getLsbD 0 then .vertical else .horizontal }

/-- R398: the 16-byte header. -/
def loadImage (image : List Byte) : Except LoadError Cartridge :=
  if image.take 4 = [0x4E#8, 0x45#8, 0x53#8, 0x1A#8] then
    if image.length < 16 then .error .truncated
    else
      loadBody (image.getD 4 0x00#8).toNat (image.getD 5 0x00#8).toNat (image.getD 6 0x00#8) (image.getD 7 0x00#8)
        (image.drop 16)
  else .error .badSignature

/-! The host's moves. -/

/-- R249: a saved block put back as a whole. The button masks are the host's inputs (R245), not part of the block, and
stay (log entry 26). -/
def restoreBlock (b : Block) (s : State) : State :=
  s.setBlock { b with pads := { b.pads with buttons1 := s.pads.buttons1, buttons2 := s.pads.buttons2 } }

/-- May a saved block be restored? It may not where that would clear, set or change the fatal status, which only reset,
reload and `raise Fatal` do (10_state.md R17, 60_exceptions.md R423, R441), unless the parameter says that a restore does
too (R249). DESIGN CHOICE, log entry 26. -/
def restorable (b : Block) (s : State) : Bool := s.params.restoresFatal || b.fatal == s.fatal

/-- R249: one move. A load that fails changes nothing (R399), and neither does a restore of a state that was not saved or
may not be restored: it is all or nothing. -/
def applyMove (s : State) (m : HostMove) : State :=
  match m with
  | .buttons b1 b2 => s.setPads { s.pads with buttons1 := b1, buttons2 := b2 }
  | .clearFrameComplete => s.onPpu (fun p => { p with frameComplete := false })
  | .reset => warmReset s
  | .load image =>
    match loadImage image with
    | .ok c => powerOn c s
    | .error _ => s
  | .save => s.setSaves (s.toBlock :: s.saves)
  | .restore k =>
    match s.saves[k]? with
    | some b => applyIf (restorable b s) (restoreBlock b) s
    | none => s

/-- What the host does before this Bus step (log entry 6). -/
def takeHost (s : State) : State :=
  match s.hostQueue with
  | [] => s
  | ms :: rest => ms.foldl applyMove (s.setHostQueue rest)

end Sys2Proof.Machine
end

