-- ==== Sys2Proof/Machine/Clock.lean ====
section
/-! DEFINITION. The Bus step (46_bus_dma_controller.md R230 to R240). -/

namespace Sys2Proof.Machine

/-- R237: the DMA slot. -/
def dmaSlot (s : State) : State :=
  if s.dma.dummy then
    if s.clk % 2 = 1 then s.setDma { s.dma with dummy := false } else s
  else if s.clk % 2 = 0 then
    let r := memRead (mkWord s.dma.page s.dma.offset) s
    r.2.setDma { r.2.dma with data := r.1 }
  else
    let s := s.onPpu (fun p => { p with oam := p.oam.write s.dma.offset.toNat s.dma.data })
    let next := s.dma.offset + 1#8
    s.setDma { s.dma with
      offset := next
      active := next != 0x00#8
      dummy := next == 0x00#8 }

/-- Go on after an outcome, unless it is no next state. -/
def bindOut (o : Out) (f : State → Out) : Out :=
  match o with
  | .next s => f s
  | .fault r => .fault r
  | .refused r => .refused r

/-- R232: `cycles <- cycles - 1`, not reached after a fatal condition (60_exceptions.md R423). -/
def countCycle (s : State) : State := andThen s fun s => s.setCpu (s.cpu.setCycles (s.cpu.cycles - 1))

/-- R232: fetch and execute one instruction. -/
def runInstr (s : State) : Out :=
  let f := fetch s
  exec f.1 f.2

/-- R232: `CpuClock()`. -/
def cpuClock (s : State) : Out :=
  if s.cpu.cycles = 0 then bindOut (runInstr s) fun s => .next (countCycle s)
  else .next (countCycle s)

/-- R231: the CPU slot. -/
def slot (s : State) : Out := if s.dma.active then .next (dmaSlot s) else cpuClock s

/-- R233: the PPU's request. -/
def routeNmi (s : State) : State :=
  applyIf s.ppu.nmi (fun s => cpuNmi (s.onPpu (fun p => { p with nmi := false }))) s

/-- R233: the mapper's request, withdrawn in any case and delivered unless it is held off. -/
def routeIrq (held : Bool) (s : State) : State :=
  applyIf s.mapper.pending (fun s => applyIf (!held) cpuIrq (s.setMapper s.mapper.clearInterrupt)) s

/-- R231, R232: does this step, as it stands before its CPU slot, fetch an instruction? -/
def State.atFetch (s : State) : Bool := s.clk % 3 == 0 && !s.dma.active && s.cpu.cycles == 0

/-- Is an IRQ held off in this step because its instruction is RTI and the interrupt-disable flag was set before it
(45_flags_system.md R219)? `s` is the state before the CPU slot, `t` the one after it. By 60_exceptions.md R427 the flag
that RTI restores counts at once; which rule holds is a parameter. DESIGN CHOICE, log entry 25. -/
def irqHeld (s t : State) : Bool :=
  s.params.rtiDelaysIrq && s.atFetch && t.cpu.opcode == 0x40#8 && s.cpu.p.getLsbD interruptBit

/-- R230, R234: the end of a Bus step, each part abandoned once a fatal condition has been raised. Unless it is held off
(`irqHeld`), an IRQ sees the interrupt-disable flag that the instruction of this very step has left (60_exceptions.md
R427). -/
def endStep (held : Bool) (s : State) : State :=
  andThen s fun s => andThen (routeNmi s) fun s => andThen (routeIrq held s) fun s => s.setClk (s.clk + 1)

/-- R230: `Step()`. -/
def busStep (s : State) : Out :=
  match s.fatal with
  | some _ => .next s
  | none =>
    let s := ppuClock s
    bindOut (if s.clk % 3 = 0 then slot s else .next s) fun t => .next (endStep (irqHeld s t) t)

/-- A Bus step of a block that has a cartridge (49_mappers_cartridge.md R399). -/
def guardedStep (s : State) : Out := if s.cart.prgBanks = 0 then .refused .noCartridge else busStep s

end Sys2Proof.Machine
end

