-- ==== Sys2Proof/Machine/Step.lean ====
section
/-! DEFINITION. One step of the model: what the host does between two Bus steps, then one Bus step (log entry 14). -/

namespace Sys2Proof.Machine

def step (s : State) : Host.Outcome State Fault Refusal := guardedStep (takeHost s)

/-- The instruction whose bits are `w` placed where the next step fetches (log entry 22). -/
def State.withFetchWord (s : State) (nbits w : Nat) : State := placeWord nbits w s

end Sys2Proof.Machine
end

