-- ==== Sys2Proof/Laws/PerInstr.lean ====
section
/-! SUPPORT. Facts proved per instruction. -/

namespace Sys2Proof.Laws.OpcodeLength

/-- 30_encoding.md R80: the opcode byte alone selects the length of a well-formed instruction. -/
def Statement (i : Instr) : Prop := i.wellFormed = true → opLength i.opcode = i.length

/-- The lengths of rows 1 to 19 of the legal table, evaluated together. -/
theorem rows0 :
    opLength 0xA9#8 = 2 ∧ opLength 0xA5#8 = 2 ∧ opLength 0xB5#8 = 2 ∧ opLength 0xAD#8 = 3 ∧ opLength 0xBD#8 = 3 ∧
    opLength 0xB9#8 = 3 ∧ opLength 0xA1#8 = 2 ∧ opLength 0xB1#8 = 2 ∧ opLength 0xA2#8 = 2 ∧ opLength 0xA6#8 = 2 ∧
    opLength 0xB6#8 = 2 ∧ opLength 0xAE#8 = 3 ∧ opLength 0xBE#8 = 3 ∧ opLength 0xA0#8 = 2 ∧ opLength 0xA4#8 = 2 ∧
    opLength 0xB4#8 = 2 ∧ opLength 0xAC#8 = 3 ∧ opLength 0xBC#8 = 3 ∧ opLength 0x85#8 = 2 := by
  decide +kernel

/-- The lengths of rows 20 to 38 of the legal table, evaluated together. -/
theorem rows1 :
    opLength 0x95#8 = 2 ∧ opLength 0x8D#8 = 3 ∧ opLength 0x9D#8 = 3 ∧ opLength 0x99#8 = 3 ∧ opLength 0x81#8 = 2 ∧
    opLength 0x91#8 = 2 ∧ opLength 0x86#8 = 2 ∧ opLength 0x96#8 = 2 ∧ opLength 0x8E#8 = 3 ∧ opLength 0x84#8 = 2 ∧
    opLength 0x94#8 = 2 ∧ opLength 0x8C#8 = 3 ∧ opLength 0xAA#8 = 1 ∧ opLength 0xA8#8 = 1 ∧ opLength 0x8A#8 = 1 ∧
    opLength 0x98#8 = 1 ∧ opLength 0xBA#8 = 1 ∧ opLength 0x9A#8 = 1 ∧ opLength 0x48#8 = 1 := by
  decide +kernel

/-- The lengths of rows 39 to 57 of the legal table, evaluated together. -/
theorem rows2 :
    opLength 0x08#8 = 1 ∧ opLength 0x68#8 = 1 ∧ opLength 0x28#8 = 1 ∧ opLength 0x69#8 = 2 ∧ opLength 0x65#8 = 2 ∧
    opLength 0x75#8 = 2 ∧ opLength 0x6D#8 = 3 ∧ opLength 0x7D#8 = 3 ∧ opLength 0x79#8 = 3 ∧ opLength 0x61#8 = 2 ∧
    opLength 0x71#8 = 2 ∧ opLength 0xE9#8 = 2 ∧ opLength 0xE5#8 = 2 ∧ opLength 0xF5#8 = 2 ∧ opLength 0xED#8 = 3 ∧
    opLength 0xFD#8 = 3 ∧ opLength 0xF9#8 = 3 ∧ opLength 0xE1#8 = 2 ∧ opLength 0xF1#8 = 2 := by
  decide +kernel

/-- The lengths of rows 58 to 76 of the legal table, evaluated together. -/
theorem rows3 :
    opLength 0x29#8 = 2 ∧ opLength 0x25#8 = 2 ∧ opLength 0x35#8 = 2 ∧ opLength 0x2D#8 = 3 ∧ opLength 0x3D#8 = 3 ∧
    opLength 0x39#8 = 3 ∧ opLength 0x21#8 = 2 ∧ opLength 0x31#8 = 2 ∧ opLength 0x09#8 = 2 ∧ opLength 0x05#8 = 2 ∧
    opLength 0x15#8 = 2 ∧ opLength 0x0D#8 = 3 ∧ opLength 0x1D#8 = 3 ∧ opLength 0x19#8 = 3 ∧ opLength 0x01#8 = 2 ∧
    opLength 0x11#8 = 2 ∧ opLength 0x49#8 = 2 ∧ opLength 0x45#8 = 2 ∧ opLength 0x55#8 = 2 := by
  decide +kernel

/-- The lengths of rows 77 to 95 of the legal table, evaluated together. -/
theorem rows4 :
    opLength 0x4D#8 = 3 ∧ opLength 0x5D#8 = 3 ∧ opLength 0x59#8 = 3 ∧ opLength 0x41#8 = 2 ∧ opLength 0x51#8 = 2 ∧
    opLength 0xC9#8 = 2 ∧ opLength 0xC5#8 = 2 ∧ opLength 0xD5#8 = 2 ∧ opLength 0xCD#8 = 3 ∧ opLength 0xDD#8 = 3 ∧
    opLength 0xD9#8 = 3 ∧ opLength 0xC1#8 = 2 ∧ opLength 0xD1#8 = 2 ∧ opLength 0xE0#8 = 2 ∧ opLength 0xE4#8 = 2 ∧
    opLength 0xEC#8 = 3 ∧ opLength 0xC0#8 = 2 ∧ opLength 0xC4#8 = 2 ∧ opLength 0xCC#8 = 3 := by
  decide +kernel

/-- The lengths of rows 96 to 114 of the legal table, evaluated together. -/
theorem rows5 :
    opLength 0x24#8 = 2 ∧ opLength 0x2C#8 = 3 ∧ opLength 0xE6#8 = 2 ∧ opLength 0xF6#8 = 2 ∧ opLength 0xEE#8 = 3 ∧
    opLength 0xFE#8 = 3 ∧ opLength 0xC6#8 = 2 ∧ opLength 0xD6#8 = 2 ∧ opLength 0xCE#8 = 3 ∧ opLength 0xDE#8 = 3 ∧
    opLength 0xE8#8 = 1 ∧ opLength 0xC8#8 = 1 ∧ opLength 0xCA#8 = 1 ∧ opLength 0x88#8 = 1 ∧ opLength 0x0A#8 = 1 ∧
    opLength 0x06#8 = 2 ∧ opLength 0x16#8 = 2 ∧ opLength 0x0E#8 = 3 ∧ opLength 0x1E#8 = 3 := by
  decide +kernel

/-- The lengths of rows 115 to 133 of the legal table, evaluated together. -/
theorem rows6 :
    opLength 0x4A#8 = 1 ∧ opLength 0x46#8 = 2 ∧ opLength 0x56#8 = 2 ∧ opLength 0x4E#8 = 3 ∧ opLength 0x5E#8 = 3 ∧
    opLength 0x2A#8 = 1 ∧ opLength 0x26#8 = 2 ∧ opLength 0x36#8 = 2 ∧ opLength 0x2E#8 = 3 ∧ opLength 0x3E#8 = 3 ∧
    opLength 0x6A#8 = 1 ∧ opLength 0x66#8 = 2 ∧ opLength 0x76#8 = 2 ∧ opLength 0x6E#8 = 3 ∧ opLength 0x7E#8 = 3 ∧
    opLength 0x4C#8 = 3 ∧ opLength 0x6C#8 = 3 ∧ opLength 0x20#8 = 3 ∧ opLength 0x60#8 = 1 := by
  decide +kernel

/-- The lengths of rows 134 to 151 of the legal table, evaluated together. -/
theorem rows7 :
    opLength 0x90#8 = 2 ∧ opLength 0xB0#8 = 2 ∧ opLength 0xF0#8 = 2 ∧ opLength 0xD0#8 = 2 ∧ opLength 0x30#8 = 2 ∧
    opLength 0x10#8 = 2 ∧ opLength 0x50#8 = 2 ∧ opLength 0x70#8 = 2 ∧ opLength 0x18#8 = 1 ∧ opLength 0x38#8 = 1 ∧
    opLength 0x58#8 = 1 ∧ opLength 0x78#8 = 1 ∧ opLength 0xB8#8 = 1 ∧ opLength 0xD8#8 = 1 ∧ opLength 0xF8#8 = 1 ∧
    opLength 0xEA#8 = 1 ∧ opLength 0x00#8 = 1 ∧ opLength 0x40#8 = 1 := by
  decide +kernel

theorem ldaImm (v : Byte) : Statement (.ldaImm v) := fun _ => rows0.1
theorem ldaZp0 (a : Byte) : Statement (.ldaZp0 a) := fun _ => rows0.2.1
theorem ldaZpx (a : Byte) : Statement (.ldaZpx a) := fun _ => rows0.2.2.1
theorem ldaAbs (a : Word) : Statement (.ldaAbs a) := fun _ => rows0.2.2.2.1
theorem ldaAbx (a : Word) : Statement (.ldaAbx a) := fun _ => rows0.2.2.2.2.1
theorem ldaAby (a : Word) : Statement (.ldaAby a) := fun _ => rows0.2.2.2.2.2.1
theorem ldaIzx (a : Byte) : Statement (.ldaIzx a) := fun _ => rows0.2.2.2.2.2.2.1
theorem ldaIzy (a : Byte) : Statement (.ldaIzy a) := fun _ => rows0.2.2.2.2.2.2.2.1
theorem ldxImm (v : Byte) : Statement (.ldxImm v) := fun _ => rows0.2.2.2.2.2.2.2.2.1
theorem ldxZp0 (a : Byte) : Statement (.ldxZp0 a) := fun _ => rows0.2.2.2.2.2.2.2.2.2.1
theorem ldxZpy (a : Byte) : Statement (.ldxZpy a) := fun _ => rows0.2.2.2.2.2.2.2.2.2.2.1
theorem ldxAbs (a : Word) : Statement (.ldxAbs a) := fun _ => rows0.2.2.2.2.2.2.2.2.2.2.2.1
theorem ldxAby (a : Word) : Statement (.ldxAby a) := fun _ => rows0.2.2.2.2.2.2.2.2.2.2.2.2.1
theorem ldyImm (v : Byte) : Statement (.ldyImm v) := fun _ => rows0.2.2.2.2.2.2.2.2.2.2.2.2.2.1
theorem ldyZp0 (a : Byte) : Statement (.ldyZp0 a) := fun _ => rows0.2.2.2.2.2.2.2.2.2.2.2.2.2.2.1
theorem ldyZpx (a : Byte) : Statement (.ldyZpx a) := fun _ => rows0.2.2.2.2.2.2.2.2.2.2.2.2.2.2.2.1
theorem ldyAbs (a : Word) : Statement (.ldyAbs a) := fun _ => rows0.2.2.2.2.2.2.2.2.2.2.2.2.2.2.2.2.1
theorem ldyAbx (a : Word) : Statement (.ldyAbx a) := fun _ => rows0.2.2.2.2.2.2.2.2.2.2.2.2.2.2.2.2.2.1
theorem staZp0 (a : Byte) : Statement (.staZp0 a) := fun _ => rows0.2.2.2.2.2.2.2.2.2.2.2.2.2.2.2.2.2.2
theorem staZpx (a : Byte) : Statement (.staZpx a) := fun _ => rows1.1
theorem staAbs (a : Word) : Statement (.staAbs a) := fun _ => rows1.2.1
theorem staAbx (a : Word) : Statement (.staAbx a) := fun _ => rows1.2.2.1
theorem staAby (a : Word) : Statement (.staAby a) := fun _ => rows1.2.2.2.1
theorem staIzx (a : Byte) : Statement (.staIzx a) := fun _ => rows1.2.2.2.2.1
theorem staIzy (a : Byte) : Statement (.staIzy a) := fun _ => rows1.2.2.2.2.2.1
theorem stxZp0 (a : Byte) : Statement (.stxZp0 a) := fun _ => rows1.2.2.2.2.2.2.1
theorem stxZpy (a : Byte) : Statement (.stxZpy a) := fun _ => rows1.2.2.2.2.2.2.2.1
theorem stxAbs (a : Word) : Statement (.stxAbs a) := fun _ => rows1.2.2.2.2.2.2.2.2.1
theorem styZp0 (a : Byte) : Statement (.styZp0 a) := fun _ => rows1.2.2.2.2.2.2.2.2.2.1
theorem styZpx (a : Byte) : Statement (.styZpx a) := fun _ => rows1.2.2.2.2.2.2.2.2.2.2.1
theorem styAbs (a : Word) : Statement (.styAbs a) := fun _ => rows1.2.2.2.2.2.2.2.2.2.2.2.1
theorem tax : Statement (.tax) := fun _ => rows1.2.2.2.2.2.2.2.2.2.2.2.2.1
theorem tay : Statement (.tay) := fun _ => rows1.2.2.2.2.2.2.2.2.2.2.2.2.2.1
theorem txa : Statement (.txa) := fun _ => rows1.2.2.2.2.2.2.2.2.2.2.2.2.2.2.1
theorem tya : Statement (.tya) := fun _ => rows1.2.2.2.2.2.2.2.2.2.2.2.2.2.2.2.1
theorem tsx : Statement (.tsx) := fun _ => rows1.2.2.2.2.2.2.2.2.2.2.2.2.2.2.2.2.1
theorem txs : Statement (.txs) := fun _ => rows1.2.2.2.2.2.2.2.2.2.2.2.2.2.2.2.2.2.1
theorem pha : Statement (.pha) := fun _ => rows1.2.2.2.2.2.2.2.2.2.2.2.2.2.2.2.2.2.2
theorem php : Statement (.php) := fun _ => rows2.1
theorem pla : Statement (.pla) := fun _ => rows2.2.1
theorem plp : Statement (.plp) := fun _ => rows2.2.2.1
theorem adcImm (v : Byte) : Statement (.adcImm v) := fun _ => rows2.2.2.2.1
theorem adcZp0 (a : Byte) : Statement (.adcZp0 a) := fun _ => rows2.2.2.2.2.1
theorem adcZpx (a : Byte) : Statement (.adcZpx a) := fun _ => rows2.2.2.2.2.2.1
theorem adcAbs (a : Word) : Statement (.adcAbs a) := fun _ => rows2.2.2.2.2.2.2.1
theorem adcAbx (a : Word) : Statement (.adcAbx a) := fun _ => rows2.2.2.2.2.2.2.2.1
theorem adcAby (a : Word) : Statement (.adcAby a) := fun _ => rows2.2.2.2.2.2.2.2.2.1
theorem adcIzx (a : Byte) : Statement (.adcIzx a) := fun _ => rows2.2.2.2.2.2.2.2.2.2.1
theorem adcIzy (a : Byte) : Statement (.adcIzy a) := fun _ => rows2.2.2.2.2.2.2.2.2.2.2.1
theorem sbcImm (v : Byte) : Statement (.sbcImm v) := fun _ => rows2.2.2.2.2.2.2.2.2.2.2.2.1
theorem sbcZp0 (a : Byte) : Statement (.sbcZp0 a) := fun _ => rows2.2.2.2.2.2.2.2.2.2.2.2.2.1
theorem sbcZpx (a : Byte) : Statement (.sbcZpx a) := fun _ => rows2.2.2.2.2.2.2.2.2.2.2.2.2.2.1
theorem sbcAbs (a : Word) : Statement (.sbcAbs a) := fun _ => rows2.2.2.2.2.2.2.2.2.2.2.2.2.2.2.1
theorem sbcAbx (a : Word) : Statement (.sbcAbx a) := fun _ => rows2.2.2.2.2.2.2.2.2.2.2.2.2.2.2.2.1
theorem sbcAby (a : Word) : Statement (.sbcAby a) := fun _ => rows2.2.2.2.2.2.2.2.2.2.2.2.2.2.2.2.2.1
theorem sbcIzx (a : Byte) : Statement (.sbcIzx a) := fun _ => rows2.2.2.2.2.2.2.2.2.2.2.2.2.2.2.2.2.2.1
theorem sbcIzy (a : Byte) : Statement (.sbcIzy a) := fun _ => rows2.2.2.2.2.2.2.2.2.2.2.2.2.2.2.2.2.2.2
theorem andImm (v : Byte) : Statement (.andImm v) := fun _ => rows3.1
theorem andZp0 (a : Byte) : Statement (.andZp0 a) := fun _ => rows3.2.1
theorem andZpx (a : Byte) : Statement (.andZpx a) := fun _ => rows3.2.2.1
theorem andAbs (a : Word) : Statement (.andAbs a) := fun _ => rows3.2.2.2.1
theorem andAbx (a : Word) : Statement (.andAbx a) := fun _ => rows3.2.2.2.2.1
theorem andAby (a : Word) : Statement (.andAby a) := fun _ => rows3.2.2.2.2.2.1
theorem andIzx (a : Byte) : Statement (.andIzx a) := fun _ => rows3.2.2.2.2.2.2.1
theorem andIzy (a : Byte) : Statement (.andIzy a) := fun _ => rows3.2.2.2.2.2.2.2.1
theorem oraImm (v : Byte) : Statement (.oraImm v) := fun _ => rows3.2.2.2.2.2.2.2.2.1
theorem oraZp0 (a : Byte) : Statement (.oraZp0 a) := fun _ => rows3.2.2.2.2.2.2.2.2.2.1
theorem oraZpx (a : Byte) : Statement (.oraZpx a) := fun _ => rows3.2.2.2.2.2.2.2.2.2.2.1
theorem oraAbs (a : Word) : Statement (.oraAbs a) := fun _ => rows3.2.2.2.2.2.2.2.2.2.2.2.1
theorem oraAbx (a : Word) : Statement (.oraAbx a) := fun _ => rows3.2.2.2.2.2.2.2.2.2.2.2.2.1
theorem oraAby (a : Word) : Statement (.oraAby a) := fun _ => rows3.2.2.2.2.2.2.2.2.2.2.2.2.2.1
theorem oraIzx (a : Byte) : Statement (.oraIzx a) := fun _ => rows3.2.2.2.2.2.2.2.2.2.2.2.2.2.2.1
theorem oraIzy (a : Byte) : Statement (.oraIzy a) := fun _ => rows3.2.2.2.2.2.2.2.2.2.2.2.2.2.2.2.1
theorem eorImm (v : Byte) : Statement (.eorImm v) := fun _ => rows3.2.2.2.2.2.2.2.2.2.2.2.2.2.2.2.2.1
theorem eorZp0 (a : Byte) : Statement (.eorZp0 a) := fun _ => rows3.2.2.2.2.2.2.2.2.2.2.2.2.2.2.2.2.2.1
theorem eorZpx (a : Byte) : Statement (.eorZpx a) := fun _ => rows3.2.2.2.2.2.2.2.2.2.2.2.2.2.2.2.2.2.2
theorem eorAbs (a : Word) : Statement (.eorAbs a) := fun _ => rows4.1
theorem eorAbx (a : Word) : Statement (.eorAbx a) := fun _ => rows4.2.1
theorem eorAby (a : Word) : Statement (.eorAby a) := fun _ => rows4.2.2.1
theorem eorIzx (a : Byte) : Statement (.eorIzx a) := fun _ => rows4.2.2.2.1
theorem eorIzy (a : Byte) : Statement (.eorIzy a) := fun _ => rows4.2.2.2.2.1
theorem cmpImm (v : Byte) : Statement (.cmpImm v) := fun _ => rows4.2.2.2.2.2.1
theorem cmpZp0 (a : Byte) : Statement (.cmpZp0 a) := fun _ => rows4.2.2.2.2.2.2.1
theorem cmpZpx (a : Byte) : Statement (.cmpZpx a) := fun _ => rows4.2.2.2.2.2.2.2.1
theorem cmpAbs (a : Word) : Statement (.cmpAbs a) := fun _ => rows4.2.2.2.2.2.2.2.2.1
theorem cmpAbx (a : Word) : Statement (.cmpAbx a) := fun _ => rows4.2.2.2.2.2.2.2.2.2.1
theorem cmpAby (a : Word) : Statement (.cmpAby a) := fun _ => rows4.2.2.2.2.2.2.2.2.2.2.1
theorem cmpIzx (a : Byte) : Statement (.cmpIzx a) := fun _ => rows4.2.2.2.2.2.2.2.2.2.2.2.1
theorem cmpIzy (a : Byte) : Statement (.cmpIzy a) := fun _ => rows4.2.2.2.2.2.2.2.2.2.2.2.2.1
theorem cpxImm (v : Byte) : Statement (.cpxImm v) := fun _ => rows4.2.2.2.2.2.2.2.2.2.2.2.2.2.1
theorem cpxZp0 (a : Byte) : Statement (.cpxZp0 a) := fun _ => rows4.2.2.2.2.2.2.2.2.2.2.2.2.2.2.1
theorem cpxAbs (a : Word) : Statement (.cpxAbs a) := fun _ => rows4.2.2.2.2.2.2.2.2.2.2.2.2.2.2.2.1
theorem cpyImm (v : Byte) : Statement (.cpyImm v) := fun _ => rows4.2.2.2.2.2.2.2.2.2.2.2.2.2.2.2.2.1
theorem cpyZp0 (a : Byte) : Statement (.cpyZp0 a) := fun _ => rows4.2.2.2.2.2.2.2.2.2.2.2.2.2.2.2.2.2.1
theorem cpyAbs (a : Word) : Statement (.cpyAbs a) := fun _ => rows4.2.2.2.2.2.2.2.2.2.2.2.2.2.2.2.2.2.2
theorem bitZp0 (a : Byte) : Statement (.bitZp0 a) := fun _ => rows5.1
theorem bitAbs (a : Word) : Statement (.bitAbs a) := fun _ => rows5.2.1
theorem incZp0 (a : Byte) : Statement (.incZp0 a) := fun _ => rows5.2.2.1
theorem incZpx (a : Byte) : Statement (.incZpx a) := fun _ => rows5.2.2.2.1
theorem incAbs (a : Word) : Statement (.incAbs a) := fun _ => rows5.2.2.2.2.1
theorem incAbx (a : Word) : Statement (.incAbx a) := fun _ => rows5.2.2.2.2.2.1
theorem decZp0 (a : Byte) : Statement (.decZp0 a) := fun _ => rows5.2.2.2.2.2.2.1
theorem decZpx (a : Byte) : Statement (.decZpx a) := fun _ => rows5.2.2.2.2.2.2.2.1
theorem decAbs (a : Word) : Statement (.decAbs a) := fun _ => rows5.2.2.2.2.2.2.2.2.1
theorem decAbx (a : Word) : Statement (.decAbx a) := fun _ => rows5.2.2.2.2.2.2.2.2.2.1
theorem inx : Statement (.inx) := fun _ => rows5.2.2.2.2.2.2.2.2.2.2.1
theorem iny : Statement (.iny) := fun _ => rows5.2.2.2.2.2.2.2.2.2.2.2.1
theorem dex : Statement (.dex) := fun _ => rows5.2.2.2.2.2.2.2.2.2.2.2.2.1
theorem dey : Statement (.dey) := fun _ => rows5.2.2.2.2.2.2.2.2.2.2.2.2.2.1
theorem aslAcc : Statement (.aslAcc) := fun _ => rows5.2.2.2.2.2.2.2.2.2.2.2.2.2.2.1
theorem aslZp0 (a : Byte) : Statement (.aslZp0 a) := fun _ => rows5.2.2.2.2.2.2.2.2.2.2.2.2.2.2.2.1
theorem aslZpx (a : Byte) : Statement (.aslZpx a) := fun _ => rows5.2.2.2.2.2.2.2.2.2.2.2.2.2.2.2.2.1
theorem aslAbs (a : Word) : Statement (.aslAbs a) := fun _ => rows5.2.2.2.2.2.2.2.2.2.2.2.2.2.2.2.2.2.1
theorem aslAbx (a : Word) : Statement (.aslAbx a) := fun _ => rows5.2.2.2.2.2.2.2.2.2.2.2.2.2.2.2.2.2.2
theorem lsrAcc : Statement (.lsrAcc) := fun _ => rows6.1
theorem lsrZp0 (a : Byte) : Statement (.lsrZp0 a) := fun _ => rows6.2.1
theorem lsrZpx (a : Byte) : Statement (.lsrZpx a) := fun _ => rows6.2.2.1
theorem lsrAbs (a : Word) : Statement (.lsrAbs a) := fun _ => rows6.2.2.2.1
theorem lsrAbx (a : Word) : Statement (.lsrAbx a) := fun _ => rows6.2.2.2.2.1
theorem rolAcc : Statement (.rolAcc) := fun _ => rows6.2.2.2.2.2.1
theorem rolZp0 (a : Byte) : Statement (.rolZp0 a) := fun _ => rows6.2.2.2.2.2.2.1
theorem rolZpx (a : Byte) : Statement (.rolZpx a) := fun _ => rows6.2.2.2.2.2.2.2.1
theorem rolAbs (a : Word) : Statement (.rolAbs a) := fun _ => rows6.2.2.2.2.2.2.2.2.1
theorem rolAbx (a : Word) : Statement (.rolAbx a) := fun _ => rows6.2.2.2.2.2.2.2.2.2.1
theorem rorAcc : Statement (.rorAcc) := fun _ => rows6.2.2.2.2.2.2.2.2.2.2.1
theorem rorZp0 (a : Byte) : Statement (.rorZp0 a) := fun _ => rows6.2.2.2.2.2.2.2.2.2.2.2.1
theorem rorZpx (a : Byte) : Statement (.rorZpx a) := fun _ => rows6.2.2.2.2.2.2.2.2.2.2.2.2.1
theorem rorAbs (a : Word) : Statement (.rorAbs a) := fun _ => rows6.2.2.2.2.2.2.2.2.2.2.2.2.2.1
theorem rorAbx (a : Word) : Statement (.rorAbx a) := fun _ => rows6.2.2.2.2.2.2.2.2.2.2.2.2.2.2.1
theorem jmpAbs (a : Word) : Statement (.jmpAbs a) := fun _ => rows6.2.2.2.2.2.2.2.2.2.2.2.2.2.2.2.1
theorem jmpInd (a : Word) : Statement (.jmpInd a) := fun _ => rows6.2.2.2.2.2.2.2.2.2.2.2.2.2.2.2.2.1
theorem jsr (a : Word) : Statement (.jsr a) := fun _ => rows6.2.2.2.2.2.2.2.2.2.2.2.2.2.2.2.2.2.1
theorem rts : Statement (.rts) := fun _ => rows6.2.2.2.2.2.2.2.2.2.2.2.2.2.2.2.2.2.2
theorem bcc (d : Byte) : Statement (.bcc d) := fun _ => rows7.1
theorem bcs (d : Byte) : Statement (.bcs d) := fun _ => rows7.2.1
theorem beq (d : Byte) : Statement (.beq d) := fun _ => rows7.2.2.1
theorem bne (d : Byte) : Statement (.bne d) := fun _ => rows7.2.2.2.1
theorem bmi (d : Byte) : Statement (.bmi d) := fun _ => rows7.2.2.2.2.1
theorem bpl (d : Byte) : Statement (.bpl d) := fun _ => rows7.2.2.2.2.2.1
theorem bvc (d : Byte) : Statement (.bvc d) := fun _ => rows7.2.2.2.2.2.2.1
theorem bvs (d : Byte) : Statement (.bvs d) := fun _ => rows7.2.2.2.2.2.2.2.1
theorem clc : Statement (.clc) := fun _ => rows7.2.2.2.2.2.2.2.2.1
theorem sec : Statement (.sec) := fun _ => rows7.2.2.2.2.2.2.2.2.2.1
theorem cli : Statement (.cli) := fun _ => rows7.2.2.2.2.2.2.2.2.2.2.1
theorem sei : Statement (.sei) := fun _ => rows7.2.2.2.2.2.2.2.2.2.2.2.1
theorem clv : Statement (.clv) := fun _ => rows7.2.2.2.2.2.2.2.2.2.2.2.2.1
theorem cld : Statement (.cld) := fun _ => rows7.2.2.2.2.2.2.2.2.2.2.2.2.2.1
theorem sed : Statement (.sed) := fun _ => rows7.2.2.2.2.2.2.2.2.2.2.2.2.2.2.1
theorem nop : Statement (.nop) := fun _ => rows7.2.2.2.2.2.2.2.2.2.2.2.2.2.2.2.1
theorem brk : Statement (.brk) := fun _ => rows7.2.2.2.2.2.2.2.2.2.2.2.2.2.2.2.2.1
theorem rti : Statement (.rti) := fun _ => rows7.2.2.2.2.2.2.2.2.2.2.2.2.2.2.2.2.2

/-- Every byte of R85 is a one-byte illegal instruction. -/
theorem illegalBytes_length : ∀ op ∈ illegalBytes, opLength op = 1 := by
  have h : (illegalBytes.all fun op => opLength op == 1) = true := by decide +kernel
  simpa [List.all_eq_true] using h

theorem illegal (op : Byte) : Statement (.illegal op) := fun h =>
  illegalBytes_length op (List.contains_iff_mem.mp h)

end Sys2Proof.Laws.OpcodeLength
end

