-- ==== Sys2Proof/Safety.lean ====
section
/-! DEFINITION. The terms in which claims are stated: what a running machine is, the instructions with the addressing
mode, base count and page-cross eligibility that 30_encoding.md R84 and R90 give them (written from the table a second
time, apart from the meanings), what an instruction leaves alone, and the invariants of a step. -/

namespace Sys2Proof.Machine

/-! Runs. -/

/-- No fatal condition has been raised and there is a cartridge: a Bus step does its work. -/
def State.running (s : State) : Prop := s.fatal = none ∧ s.cart.prgBanks ≠ 0

/-- The next step is a CPU slot in which an instruction is fetched, and the host does nothing before it. -/
def State.fetches (s : State) : Prop :=
  s.running ∧ s.hostQueue = [] ∧ s.clk % 3 = 0 ∧ s.dma.active = false ∧ s.cpu.cycles = 0

/-! Instructions by shape, with the row's mode, base count and eligibility. -/

/-- The three data registers. -/
inductive Reg where
  | a | x | y
deriving DecidableEq, Repr

/-- A data register's value. -/
def Cpu.reg (c : Cpu) : Reg → Byte
  | .a => c.a
  | .x => c.x
  | .y => c.y

/-- A row of R84: opcode byte, addressing mode with its operand, base count and page-cross eligibility. -/
structure Form where
  opcode : Byte
  mode : Mode
  base : Nat
  eligible : Bool
deriving DecidableEq, Repr

/-- 40_addressing_modes.md R115: the cycles of a form. -/
def Form.cycles (f : Form) (crossed : Bool) : Nat := if f.eligible && crossed then f.base + 1 else f.base


/-- LDA, LDX, LDY with the register loaded. -/
def loadForm : Instr → Option (Reg × Form)
  | .ldaImm v => some (.a, ⟨0xA9#8, .imm v, 2, false⟩)
  | .ldaZp0 a => some (.a, ⟨0xA5#8, .zp0 a, 3, false⟩)
  | .ldaZpx a => some (.a, ⟨0xB5#8, .zpx a, 4, false⟩)
  | .ldaAbs a => some (.a, ⟨0xAD#8, .abs a, 4, false⟩)
  | .ldaAbx a => some (.a, ⟨0xBD#8, .abx a, 4, true⟩)
  | .ldaAby a => some (.a, ⟨0xB9#8, .aby a, 4, true⟩)
  | .ldaIzx a => some (.a, ⟨0xA1#8, .izx a, 6, false⟩)
  | .ldaIzy a => some (.a, ⟨0xB1#8, .izy a, 5, true⟩)
  | .ldxImm v => some (.x, ⟨0xA2#8, .imm v, 2, false⟩)
  | .ldxZp0 a => some (.x, ⟨0xA6#8, .zp0 a, 3, false⟩)
  | .ldxZpy a => some (.x, ⟨0xB6#8, .zpy a, 4, false⟩)
  | .ldxAbs a => some (.x, ⟨0xAE#8, .abs a, 4, false⟩)
  | .ldxAby a => some (.x, ⟨0xBE#8, .aby a, 4, true⟩)
  | .ldyImm v => some (.y, ⟨0xA0#8, .imm v, 2, false⟩)
  | .ldyZp0 a => some (.y, ⟨0xA4#8, .zp0 a, 3, false⟩)
  | .ldyZpx a => some (.y, ⟨0xB4#8, .zpx a, 4, false⟩)
  | .ldyAbs a => some (.y, ⟨0xAC#8, .abs a, 4, false⟩)
  | .ldyAbx a => some (.y, ⟨0xBC#8, .abx a, 4, true⟩)
  | _ => none

/-- STA, STX, STY with the register stored. -/
def storeForm : Instr → Option (Reg × Form)
  | .staZp0 a => some (.a, ⟨0x85#8, .zp0 a, 3, false⟩)
  | .staZpx a => some (.a, ⟨0x95#8, .zpx a, 4, false⟩)
  | .staAbs a => some (.a, ⟨0x8D#8, .abs a, 4, false⟩)
  | .staAbx a => some (.a, ⟨0x9D#8, .abx a, 5, false⟩)
  | .staAby a => some (.a, ⟨0x99#8, .aby a, 5, false⟩)
  | .staIzx a => some (.a, ⟨0x81#8, .izx a, 6, false⟩)
  | .staIzy a => some (.a, ⟨0x91#8, .izy a, 6, false⟩)
  | .stxZp0 a => some (.x, ⟨0x86#8, .zp0 a, 3, false⟩)
  | .stxZpy a => some (.x, ⟨0x96#8, .zpy a, 4, false⟩)
  | .stxAbs a => some (.x, ⟨0x8E#8, .abs a, 4, false⟩)
  | .styZp0 a => some (.y, ⟨0x84#8, .zp0 a, 3, false⟩)
  | .styZpx a => some (.y, ⟨0x94#8, .zpx a, 4, false⟩)
  | .styAbs a => some (.y, ⟨0x8C#8, .abs a, 4, false⟩)
  | _ => none

/-- ADC, and SBC with the operand complemented (true). -/
def addForm : Instr → Option (Bool × Form)
  | .adcImm v => some (false, ⟨0x69#8, .imm v, 2, false⟩)
  | .adcZp0 a => some (false, ⟨0x65#8, .zp0 a, 3, false⟩)
  | .adcZpx a => some (false, ⟨0x75#8, .zpx a, 4, false⟩)
  | .adcAbs a => some (false, ⟨0x6D#8, .abs a, 4, false⟩)
  | .adcAbx a => some (false, ⟨0x7D#8, .abx a, 4, true⟩)
  | .adcAby a => some (false, ⟨0x79#8, .aby a, 4, true⟩)
  | .adcIzx a => some (false, ⟨0x61#8, .izx a, 6, false⟩)
  | .adcIzy a => some (false, ⟨0x71#8, .izy a, 5, true⟩)
  | .sbcImm v => some (true, ⟨0xE9#8, .imm v, 2, false⟩)
  | .sbcZp0 a => some (true, ⟨0xE5#8, .zp0 a, 3, false⟩)
  | .sbcZpx a => some (true, ⟨0xF5#8, .zpx a, 4, false⟩)
  | .sbcAbs a => some (true, ⟨0xED#8, .abs a, 4, false⟩)
  | .sbcAbx a => some (true, ⟨0xFD#8, .abx a, 4, true⟩)
  | .sbcAby a => some (true, ⟨0xF9#8, .aby a, 4, true⟩)
  | .sbcIzx a => some (true, ⟨0xE1#8, .izx a, 6, false⟩)
  | .sbcIzy a => some (true, ⟨0xF1#8, .izy a, 5, true⟩)
  | _ => none

/-- The three bitwise operations. -/
inductive Logic where
  | and | or | xor
deriving DecidableEq, Repr

def Logic.apply : Logic → Byte → Byte → Byte
  | .and, a, m => a &&& m
  | .or, a, m => a ||| m
  | .xor, a, m => a ^^^ m

/-- AND, ORA, EOR. -/
def logicForm : Instr → Option (Logic × Form)
  | .andImm v => some (.and, ⟨0x29#8, .imm v, 2, false⟩)
  | .andZp0 a => some (.and, ⟨0x25#8, .zp0 a, 3, false⟩)
  | .andZpx a => some (.and, ⟨0x35#8, .zpx a, 4, false⟩)
  | .andAbs a => some (.and, ⟨0x2D#8, .abs a, 4, false⟩)
  | .andAbx a => some (.and, ⟨0x3D#8, .abx a, 4, true⟩)
  | .andAby a => some (.and, ⟨0x39#8, .aby a, 4, true⟩)
  | .andIzx a => some (.and, ⟨0x21#8, .izx a, 6, false⟩)
  | .andIzy a => some (.and, ⟨0x31#8, .izy a, 5, true⟩)
  | .oraImm v => some (.or, ⟨0x09#8, .imm v, 2, false⟩)
  | .oraZp0 a => some (.or, ⟨0x05#8, .zp0 a, 3, false⟩)
  | .oraZpx a => some (.or, ⟨0x15#8, .zpx a, 4, false⟩)
  | .oraAbs a => some (.or, ⟨0x0D#8, .abs a, 4, false⟩)
  | .oraAbx a => some (.or, ⟨0x1D#8, .abx a, 4, true⟩)
  | .oraAby a => some (.or, ⟨0x19#8, .aby a, 4, true⟩)
  | .oraIzx a => some (.or, ⟨0x01#8, .izx a, 6, false⟩)
  | .oraIzy a => some (.or, ⟨0x11#8, .izy a, 5, true⟩)
  | .eorImm v => some (.xor, ⟨0x49#8, .imm v, 2, false⟩)
  | .eorZp0 a => some (.xor, ⟨0x45#8, .zp0 a, 3, false⟩)
  | .eorZpx a => some (.xor, ⟨0x55#8, .zpx a, 4, false⟩)
  | .eorAbs a => some (.xor, ⟨0x4D#8, .abs a, 4, false⟩)
  | .eorAbx a => some (.xor, ⟨0x5D#8, .abx a, 4, true⟩)
  | .eorAby a => some (.xor, ⟨0x59#8, .aby a, 4, true⟩)
  | .eorIzx a => some (.xor, ⟨0x41#8, .izx a, 6, false⟩)
  | .eorIzy a => some (.xor, ⟨0x51#8, .izy a, 5, true⟩)
  | _ => none

/-- CMP, CPX, CPY with the register compared. -/
def compareForm : Instr → Option (Reg × Form)
  | .cmpImm v => some (.a, ⟨0xC9#8, .imm v, 2, false⟩)
  | .cmpZp0 a => some (.a, ⟨0xC5#8, .zp0 a, 3, false⟩)
  | .cmpZpx a => some (.a, ⟨0xD5#8, .zpx a, 4, false⟩)
  | .cmpAbs a => some (.a, ⟨0xCD#8, .abs a, 4, false⟩)
  | .cmpAbx a => some (.a, ⟨0xDD#8, .abx a, 4, true⟩)
  | .cmpAby a => some (.a, ⟨0xD9#8, .aby a, 4, true⟩)
  | .cmpIzx a => some (.a, ⟨0xC1#8, .izx a, 6, false⟩)
  | .cmpIzy a => some (.a, ⟨0xD1#8, .izy a, 5, true⟩)
  | .cpxImm v => some (.x, ⟨0xE0#8, .imm v, 2, false⟩)
  | .cpxZp0 a => some (.x, ⟨0xE4#8, .zp0 a, 3, false⟩)
  | .cpxAbs a => some (.x, ⟨0xEC#8, .abs a, 4, false⟩)
  | .cpyImm v => some (.y, ⟨0xC0#8, .imm v, 2, false⟩)
  | .cpyZp0 a => some (.y, ⟨0xC4#8, .zp0 a, 3, false⟩)
  | .cpyAbs a => some (.y, ⟨0xCC#8, .abs a, 4, false⟩)
  | _ => none

/-- BIT. -/
def bitForm : Instr → Option (Form)
  | .bitZp0 a => some ⟨0x24#8, .zp0 a, 3, false⟩
  | .bitAbs a => some ⟨0x2C#8, .abs a, 4, false⟩
  | _ => none

/-- INC (true) and DEC (false) of memory. -/
def stepForm : Instr → Option (Bool × Form)
  | .incZp0 a => some (true, ⟨0xE6#8, .zp0 a, 5, false⟩)
  | .incZpx a => some (true, ⟨0xF6#8, .zpx a, 6, false⟩)
  | .incAbs a => some (true, ⟨0xEE#8, .abs a, 6, false⟩)
  | .incAbx a => some (true, ⟨0xFE#8, .abx a, 7, false⟩)
  | .decZp0 a => some (false, ⟨0xC6#8, .zp0 a, 5, false⟩)
  | .decZpx a => some (false, ⟨0xD6#8, .zpx a, 6, false⟩)
  | .decAbs a => some (false, ⟨0xCE#8, .abs a, 6, false⟩)
  | .decAbx a => some (false, ⟨0xDE#8, .abx a, 7, false⟩)
  | _ => none

/-- The four one-bit shifts. -/
inductive Shift where
  | asl | lsr | rol | ror
deriving DecidableEq, Repr

/-- 43_shift_rotate.md R181 to R184: the result of a shift of `m` with carry in `c`, as a number. -/
def Shift.result (k : Shift) (c : Bool) (m : Byte) : Nat :=
  match k with
  | .asl => m.toNat * 2 % 256
  | .lsr => m.toNat / 2
  | .rol => m.toNat * 2 % 256 + c.toNat
  | .ror => m.toNat / 2 + 128 * c.toNat

/-- The bit that a shift moves into the carry. -/
def Shift.out (k : Shift) (m : Byte) : Bool :=
  match k with
  | .asl | .rol => m.getLsbD 7
  | .lsr | .ror => m.getLsbD 0

/-- ASL, LSR, ROL, ROR. -/
def shiftForm : Instr → Option (Shift × Form)
  | .aslAcc => some (.asl, ⟨0x0A#8, .acc, 2, false⟩)
  | .aslZp0 a => some (.asl, ⟨0x06#8, .zp0 a, 5, false⟩)
  | .aslZpx a => some (.asl, ⟨0x16#8, .zpx a, 6, false⟩)
  | .aslAbs a => some (.asl, ⟨0x0E#8, .abs a, 6, false⟩)
  | .aslAbx a => some (.asl, ⟨0x1E#8, .abx a, 7, false⟩)
  | .lsrAcc => some (.lsr, ⟨0x4A#8, .acc, 2, false⟩)
  | .lsrZp0 a => some (.lsr, ⟨0x46#8, .zp0 a, 5, false⟩)
  | .lsrZpx a => some (.lsr, ⟨0x56#8, .zpx a, 6, false⟩)
  | .lsrAbs a => some (.lsr, ⟨0x4E#8, .abs a, 6, false⟩)
  | .lsrAbx a => some (.lsr, ⟨0x5E#8, .abx a, 7, false⟩)
  | .rolAcc => some (.rol, ⟨0x2A#8, .acc, 2, false⟩)
  | .rolZp0 a => some (.rol, ⟨0x26#8, .zp0 a, 5, false⟩)
  | .rolZpx a => some (.rol, ⟨0x36#8, .zpx a, 6, false⟩)
  | .rolAbs a => some (.rol, ⟨0x2E#8, .abs a, 6, false⟩)
  | .rolAbx a => some (.rol, ⟨0x3E#8, .abx a, 7, false⟩)
  | .rorAcc => some (.ror, ⟨0x6A#8, .acc, 2, false⟩)
  | .rorZp0 a => some (.ror, ⟨0x66#8, .zp0 a, 5, false⟩)
  | .rorZpx a => some (.ror, ⟨0x76#8, .zpx a, 6, false⟩)
  | .rorAbs a => some (.ror, ⟨0x6E#8, .abs a, 6, false⟩)
  | .rorAbx a => some (.ror, ⟨0x7E#8, .abx a, 7, false⟩)
  | _ => none

/-- JMP. -/
def jumpForm : Instr → Option (Form)
  | .jmpAbs a => some ⟨0x4C#8, .abs a, 3, false⟩
  | .jmpInd a => some ⟨0x6C#8, .ind a, 5, false⟩
  | _ => none

/-- A branch: opcode byte, the flag tested (its bit of `P`), the value that takes the branch, the displacement. -/
structure BranchForm where
  opcode : Byte
  flag : Nat
  value : Bool
  displacement : Byte
deriving DecidableEq, Repr

/-- The eight branches (44_control_flow.md R194 to R201). -/
def branchForm : Instr → Option BranchForm
  | .bcc d => some ⟨0x90#8, 0, false, d⟩
  | .bcs d => some ⟨0xB0#8, 0, true, d⟩
  | .beq d => some ⟨0xF0#8, 1, true, d⟩
  | .bne d => some ⟨0xD0#8, 1, false, d⟩
  | .bmi d => some ⟨0x30#8, 7, true, d⟩
  | .bpl d => some ⟨0x10#8, 7, false, d⟩
  | .bvc d => some ⟨0x50#8, 6, false, d⟩
  | .bvs d => some ⟨0x70#8, 6, true, d⟩
  | _ => none

/-- The seven flag instructions: opcode byte, the bit of `P` and the value written (45_flags_system.md R210 to R216). -/
def flagForm : Instr → Option (Byte × Nat × Bool)
  | .clc => some (0x18#8, 0, false)
  | .sec => some (0x38#8, 0, true)
  | .cli => some (0x58#8, 2, false)
  | .sei => some (0x78#8, 2, true)
  | .clv => some (0xB8#8, 6, false)
  | .cld => some (0xD8#8, 3, false)
  | .sed => some (0xF8#8, 3, true)
  | _ => none

/-- The implicit-mode instructions that write one data register and Z, N: opcode byte, the register, and its new value
(41 R127 to R131, 42 R161 to R164). -/
def registerForm (c : Cpu) : Instr → Option (Byte × Reg × Byte)
  | .tax => some (0xAA#8, .x, c.a)
  | .tay => some (0xA8#8, .y, c.a)
  | .txa => some (0x8A#8, .a, c.x)
  | .tya => some (0x98#8, .a, c.y)
  | .tsx => some (0xBA#8, .x, c.sp)
  | .inx => some (0xE8#8, .x, BitVec.ofNat 8 (c.x.toNat + 1))
  | .iny => some (0xC8#8, .y, BitVec.ofNat 8 (c.y.toNat + 1))
  | .dex => some (0xCA#8, .x, BitVec.ofNat 8 (c.x.toNat + 255))
  | .dey => some (0x88#8, .y, BitVec.ofNat 8 (c.y.toNat + 255))
  | _ => none

/-! What an instruction writes, row by row of files 41 to 45. -/

/-- The flags that the rule of the instruction names as written, as a mask on `P`. PLP and RTI load all of `P`. -/
def flagsWritten : Instr → Byte
  | .clc | .sec => 0x01#8
  | .cli | .sei | .brk => 0x04#8
  | .cld | .sed => 0x08#8
  | .clv => 0x40#8
  | .ldaImm _ | .ldaZp0 _ | .ldaZpx _ | .ldaAbs _ | .ldaAbx _ | .ldaAby _ | .ldaIzx _ | .ldaIzy _ | .ldxImm _
  | .ldxZp0 _ | .ldxZpy _ | .ldxAbs _ | .ldxAby _ | .ldyImm _ | .ldyZp0 _ | .ldyZpx _ | .ldyAbs _ | .ldyAbx _
  | .tax | .tay | .txa | .tya | .tsx | .pla | .andImm _ | .andZp0 _ | .andZpx _ | .andAbs _ | .andAbx _
  | .andAby _ | .andIzx _ | .andIzy _ | .oraImm _ | .oraZp0 _ | .oraZpx _ | .oraAbs _ | .oraAbx _ | .oraAby _
  | .oraIzx _ | .oraIzy _ | .eorImm _ | .eorZp0 _ | .eorZpx _ | .eorAbs _ | .eorAbx _ | .eorAby _ | .eorIzx _
  | .eorIzy _ | .incZp0 _ | .incZpx _ | .incAbs _ | .incAbx _ | .decZp0 _ | .decZpx _ | .decAbs _ | .decAbx _
  | .inx | .iny | .dex | .dey => 0x82#8
  | .cmpImm _ | .cmpZp0 _ | .cmpZpx _ | .cmpAbs _ | .cmpAbx _ | .cmpAby _ | .cmpIzx _ | .cmpIzy _ | .cpxImm _
  | .cpxZp0 _ | .cpxAbs _ | .cpyImm _ | .cpyZp0 _ | .cpyAbs _ | .aslAcc | .aslZp0 _ | .aslZpx _ | .aslAbs _
  | .aslAbx _ | .lsrAcc | .lsrZp0 _ | .lsrZpx _ | .lsrAbs _ | .lsrAbx _ | .rolAcc | .rolZp0 _ | .rolZpx _
  | .rolAbs _ | .rolAbx _ | .rorAcc | .rorZp0 _ | .rorZpx _ | .rorAbs _ | .rorAbx _ => 0x83#8
  | .bitZp0 _ | .bitAbs _ => 0xC2#8
  | .adcImm _ | .adcZp0 _ | .adcZpx _ | .adcAbs _ | .adcAbx _ | .adcAby _ | .adcIzx _ | .adcIzy _ | .sbcImm _
  | .sbcZp0 _ | .sbcZpx _ | .sbcAbs _ | .sbcAbx _ | .sbcAby _ | .sbcIzx _ | .sbcIzy _ => 0xC3#8
  | .plp | .rti => 0xFF#8
  | _ => 0x00#8

/-- The data register that the instruction writes, if it writes one. -/
def destination : Instr → Option Reg
  | .ldaImm _ | .ldaZp0 _ | .ldaZpx _ | .ldaAbs _ | .ldaAbx _ | .ldaAby _ | .ldaIzx _ | .ldaIzy _ | .txa | .tya
  | .pla | .adcImm _ | .adcZp0 _ | .adcZpx _ | .adcAbs _ | .adcAbx _ | .adcAby _ | .adcIzx _ | .adcIzy _
  | .sbcImm _ | .sbcZp0 _ | .sbcZpx _ | .sbcAbs _ | .sbcAbx _ | .sbcAby _ | .sbcIzx _ | .sbcIzy _ | .andImm _
  | .andZp0 _ | .andZpx _ | .andAbs _ | .andAbx _ | .andAby _ | .andIzx _ | .andIzy _ | .oraImm _ | .oraZp0 _
  | .oraZpx _ | .oraAbs _ | .oraAbx _ | .oraAby _ | .oraIzx _ | .oraIzy _ | .eorImm _ | .eorZp0 _ | .eorZpx _
  | .eorAbs _ | .eorAbx _ | .eorAby _ | .eorIzx _ | .eorIzy _ | .aslAcc | .lsrAcc | .rolAcc | .rorAcc => some .a
  | .ldxImm _ | .ldxZp0 _ | .ldxZpy _ | .ldxAbs _ | .ldxAby _ | .tax | .tsx | .inx | .dex => some .x
  | .ldyImm _ | .ldyZp0 _ | .ldyZpx _ | .ldyAbs _ | .ldyAbx _ | .tay | .iny | .dey => some .y
  | _ => none

/-- The instructions that move the stack pointer: TXS, the pushes and the pulls. -/
def movesStack : Instr → Bool
  | .txs | .pha | .php | .pla | .plp | .jsr _ | .rts | .brk | .rti => true
  | _ => false

/-- The instructions that write `PC` (beyond the fetch): the control transfers, BRK and RTI. -/
def writesPc : Instr → Bool
  | .jmpAbs _ | .jmpInd _ | .jsr _ | .rts | .brk | .rti => true
  | .bcc _ | .bcs _ | .beq _ | .bne _ | .bmi _ | .bpl _ | .bvc _ | .bvs _ => true
  | _ => false

/-- The instructions that push. -/
def pushes : Instr → Bool
  | .pha | .php | .jsr _ | .brk => true
  | _ => false

/-- The memory forms that write their operand: stores, INC, DEC and the shifts of memory. -/
def storedMode (i : Instr) : Option Mode :=
  match storeForm i, stepForm i, shiftForm i with
  | some (_, f), _, _ => some f.mode
  | _, some (_, f), _ => some f.mode
  | _, _, some (_, f) => if f.mode = .acc then none else some f.mode
  | _, _, _ => none

/-! What stays. -/

/-- `t` is `s` with another CPU record. -/
def onlyCpu (s t : State) : Prop := t = s.setCpu t.cpu

/-- The status byte `q` has the given carry, zero, overflow and negative flags where one is given, and every other bit of
`p`. -/
def flagsBecome (p q : Byte) (c z v n : Option Bool) : Prop :=
  q.getLsbD 0 = c.getD (p.getLsbD 0) ∧ q.getLsbD 1 = z.getD (p.getLsbD 1) ∧ q.getLsbD 2 = p.getLsbD 2 ∧
  q.getLsbD 3 = p.getLsbD 3 ∧ q.getLsbD 4 = p.getLsbD 4 ∧ q.getLsbD 5 = p.getLsbD 5 ∧
  q.getLsbD 6 = v.getD (p.getLsbD 6) ∧ q.getLsbD 7 = n.getD (p.getLsbD 7)

/-- The registers that only one kind of instruction writes, unchanged: `X`, `Y`, `A` except the given one, `SP`, `PC`. -/
def othersKept (s t : State) (r : Option Reg) : Prop :=
  (∀ q, some q ≠ r → t.cpu.reg q = s.cpu.reg q) ∧ t.cpu.sp = s.cpu.sp ∧ t.cpu.pc = s.cpu.pc

/-- A byte of memory, wherever it stands. -/
inductive Place where
  | ram (k : Nat)
  | prgRam (k : Nat)
  | chrRam (k : Nat)
  | table0 (k : Nat)
  | table1 (k : Nat)
  | palette (k : Nat)
  | oam (k : Nat)
deriving DecidableEq, Repr

/-- The byte at a place. -/
def State.byteAt (s : State) : Place → Byte
  | .ram k => s.ram.read k
  | .prgRam k => s.prgRam.read k
  | .chrRam k => s.chrRam.read k
  | .table0 k => s.ppu.nt0.read k
  | .table1 k => s.ppu.nt1.read k
  | .palette k => s.ppu.pal.read k
  | .oam k => s.ppu.oam.read k

/-- Where a write at PPU address `a` puts its byte (20_memory.md R65 to R67): nowhere in character ROM. -/
def ppuPlace (s : State) (a : Nat) : Option Place :=
  let a := a % 0x4000
  if a < 0x2000 then (if s.cart.chrBanks = 0 then some (.chrRam (mapChr s.mapper a % 0x2000)) else none)
  else if a < 0x3F00 then
    (if ntTable s.mirror (a / 0x400 % 4) = 0 then some (.table0 (a % 0x400)) else some (.table1 (a % 0x400)))
  else some (.palette (palIndex a))

/-- Where a CPU write at address `a` puts its byte in memory (20_memory.md R52, 47 R279, R282): nowhere for the other
ports and for the mapper's registers. -/
def storePlace (s : State) (a : Word) : Option Place :=
  if a.toNat < 0x2000 then some (.ram (a.toNat % 0x800))
  else if a.toNat < 0x4000 then
    (if a.toNat % 8 = 4 then some (.oam s.ppu.oamAddr.toNat)
    else if a.toNat % 8 = 7 then ppuPlace s s.ppu.vram.toNat
    else none)
  else if a.toNat < 0x6000 then none
  else if a.toNat < 0x8000 then some (.prgRam (a.toNat % 0x2000))
  else none

/-- The state in which an instruction's store is made: after the address is resolved and, for INC, DEC and the shifts,
after the operand is read. -/
def storeState (i : Instr) (m : Mode) (s : State) : State :=
  match storeForm i with
  | some _ => (resolve m s).st
  | none => (operand m (resolve m s)).2

/-- Memory `m` after pushing the bytes in turn with the stack pointer at `sp`. -/
def storePushes (m : Memory) (sp : Nat) : List Byte → Memory
  | [] => m
  | v :: vs => storePushes (m.write (0x100 + sp) v) (sp - 1) vs

/-- Is CPU address `a` one at which a byte of memory stands: RAM, add-on RAM, program image? -/
def standsMemory (a : Word) : Bool := a.toNat < 0x2000 || a.toNat ≥ 0x6000

/-- Every byte of memory is in `t` what it was in `s`, also as the CPU and the PPU read it. -/
def memoryKept (s t : State) : Prop :=
  t.cart = s.cart ∧ (∀ p : Place, t.byteAt p = s.byteAt p) ∧
  (∀ a : Word, standsMemory a = true → (memRead a t).1 = (memRead a s).1) ∧
  (∀ a : Nat, ppuRead t a = ppuRead s a)

/-- Every byte of memory, except the at most `n` stack bytes that `n` pushes store (downward from `sp`, none once `sp` is
0: 41 R133), is in `t` what it was in `s`. -/
def memoryKeptButStack (n : Nat) (s t : State) : Prop :=
  t.cart = s.cart ∧
  (∀ p : Place, (∀ k < n, k < s.cpu.sp.toNat → p ≠ .ram (0x100 + s.cpu.sp.toNat - k)) → t.byteAt p = s.byteAt p) ∧
  (∀ a : Word, standsMemory a = true →
    (∀ k < n, k < s.cpu.sp.toNat → storePlace s a ≠ some (.ram (0x100 + s.cpu.sp.toNat - k))) →
    (memRead a t).1 = (memRead a s).1) ∧
  (∀ a : Nat, ppuRead t a = ppuRead s a)

/-- The byte at a place as `RAM_INIT` and `OAM_INIT` give it (70_reset_and_hazards.md R457). -/
def initialByte (m : InitialContents) : Place → Byte
  | .ram k => Memory.read m.ram k
  | .prgRam k => Memory.read m.prgRam k
  | .chrRam k => Memory.read m.chrRam k
  | .table0 k => Memory.read m.nt0 k
  | .table1 k => Memory.read m.nt1 k
  | .palette k => Memory.read m.pal k
  | .oam k => Memory.read m.oam k

/-! Invariants. Each is about the state of the block, and `State.everywhere` says it of the block as it stands and of
every state that the host has saved and may restore (46_bus_dma_controller.md R249). -/

/-- `P` holds of the block and of every saved state. -/
def State.everywhere (s : State) (P : Block → Prop) : Prop := P s.toBlock ∧ ∀ b ∈ s.saves, P b

/-- A memory of `n` bytes in canonical form. -/
def Memory.sound (m : Memory) (n : Nat) : Prop := m.wf = true ∧ m.below n = true

/-- Every memory keeps its canonical form and its size (10_state.md R19, R22, R26, R30). -/
def Block.memoriesSound (b : Block) : Prop :=
  b.ram.sound 0x800 ∧ b.ppu.nt0.sound 0x400 ∧ b.ppu.nt1.sound 0x400 ∧ b.ppu.pal.sound 0x20 ∧ b.ppu.oam.sound 0x100 ∧
  b.prgRam.sound 0x2000 ∧ b.chrRam.sound 0x2000

/-- The contents at power-on are memories of the right sizes in canonical form (70_reset_and_hazards.md R457). -/
def contentsSound (m : InitialContents) : Prop :=
  Memory.sound m.ram 0x800 ∧ Memory.sound m.nt0 0x400 ∧ Memory.sound m.nt1 0x400 ∧ Memory.sound m.pal 0x20 ∧
  Memory.sound m.oam 0x100 ∧ Memory.sound m.prgRam 0x2000 ∧ Memory.sound m.chrRam 0x2000

/-- The stored pixels: rising keys inside the frame, six-bit palette values (10_state.md R29, 48_ppu_rendering.md R341). -/
def Block.frameSound (b : Block) : Prop :=
  cellsRise none b.ppu.frame = true ∧ b.ppu.frame.all (fun c => c.1 < 256 * 240 && c.2 < 0x40#8) = true

/-- The two together. -/
def Block.memoriesHold (b : Block) : Prop := b.memoriesSound ∧ b.frameSound

/-- 10_state.md R14: bit 4 of `P` reads 0 and bit 5 reads 1. -/
def Block.statusBitsFixed (b : Block) : Prop := b.cpu.p.getLsbD 4 = false ∧ b.cpu.p.getLsbD 5 = true

/-- The PPU's position, sprite buffer, palette latch and status stay in their ranges (48_ppu_rendering.md R320, R334,
47_ppu_registers_memory.md R273). -/
def Block.ppuInRange (b : Block) : Prop :=
  -1 ≤ b.ppu.scanline ∧ b.ppu.scanline ≤ 260 ∧ b.ppu.cycle ≤ 340 ∧ b.ppu.spr.length = 8 ∧ b.ppu.sprCount ≤ 8 ∧
  b.ppu.bgAttrib.toNat < 4 ∧ b.ppu.status &&& 0x1F#8 = 0x00#8

/-- The mapper is the cartridge's variant (49_mappers_cartridge.md R376), MMC3 has its eight bank registers and MMC1's
serial count is below five (R379). -/
def Block.mapperLegal (b : Block) : Prop :=
  b.mapper.id = b.cart.mapperId ∧
  (∀ r, b.mapper = .mmc3 r → r.reg.length = 8) ∧ (∀ r, b.mapper = .mmc1 r → r.shiftCount < 5)

/-- A DMA record that is not transferring is ready for the next transfer (46_bus_dma_controller.md R236, R237). -/
def Block.dmaReady (b : Block) : Prop :=
  (b.dma.active = false → b.dma.dummy = true) ∧ (b.dma.dummy = true → b.dma.offset = 0x00#8)

/-- An interrupt request lives only from its source to the routing in the same Bus step (60_exceptions.md R424, R425). -/
def Block.requestsRouted (b : Block) : Prop :=
  b.fatal = none → b.ppu.nmi = false ∧ b.mapper.pending = false

/-- The five together. -/
def Block.registersHold (b : Block) : Prop :=
  b.statusBitsFixed ∧ b.ppuInRange ∧ b.mapperLegal ∧ b.dmaReady ∧ b.requestsRouted

end Sys2Proof.Machine
end

