-- ==== Sys2Proof/Certificates/Slice0/Obligations.lean ====
section
/-! DEFINITION. The statements for the provers. Each docstring names the rules of spec/ that the statement formalises, and
what in it is a choice: of the spec itself (its decisions D<n>, 92_eei_decisions.md) or of the model (its log entries).
What files 41 to 45 give each mnemonic is decision D43, the table of R84 with its counts decisions D36 and D44. -/

open Sys2Proof Sys2Proof.Machine

/-! Encoding. -/

/-- 30_encoding.md R80 to R86: decoding an encoded well-formed instruction gives it back, with every operand value, and
leaves the bytes after it. -/
def Obligations.DecodeEncode : Prop :=
  ∀ (i : Instr) (rest : List Byte), i.wellFormed = true → decode (encode i ++ rest) = .ok (i, rest)

/-- 30_encoding.md R80 to R86: an accepted byte list is the encoding of a well-formed instruction and the rest, so no bit
of the list is dropped and no byte without a row is read as a legal instruction. -/
def Obligations.EncodeDecode : Prop :=
  ∀ (bs : List Byte) (i : Instr) (rest : List Byte),
    decode bs = .ok (i, rest) → i.wellFormed = true ∧ encode i ++ rest = bs

/-- 30_encoding.md R80, R81: the opcode byte alone says how many bytes are needed; the decoder accepts exactly the lists
that have them and names the opcode it rejects; 151 bytes are legal and the 105 of R85 are one-byte illegal
instructions. -/
def Obligations.DecodeTotal : Prop :=
  decode [] = .error .noByte ∧
  (∀ (op : Byte) (rest : List Byte),
    (opLength op ≤ rest.length + 1 → ∃ i, decode (op :: rest) = .ok (i, rest.drop (opLength op - 1))) ∧
    (rest.length + 1 < opLength op → decode (op :: rest) = .error (.truncated op))) ∧
  (∀ op : Byte, op ∈ illegalBytes ↔ ofBytes op 0 0 = .illegal op) ∧ illegalBytes.length = 105

/-- 30_encoding.md R84: words written out from the table decode to the instruction they stand for, one or more of each
family. -/
def Obligations.DecodeWords : Prop :=
  decode [0b10101101#8, 0b00110100#8, 0b00010010#8] = .ok (.ldaAbs 0x1234#16, []) ∧
  decode [0b10010001#8, 0b01000000#8] = .ok (.staIzy 0x40#8, []) ∧
  decode [0b01101001#8, 0b01010000#8] = .ok (.adcImm 0x50#8, []) ∧
  decode [0b00001010#8] = .ok (.aslAcc, []) ∧
  decode [0b01101100#8, 0b11111111#8, 0b00000011#8] = .ok (.jmpInd 0x03FF#16, []) ∧
  decode [0b11010000#8, 0b11111011#8] = .ok (.bne 0xFB#8, []) ∧
  decode [0b01000000#8] = .ok (.rti, []) ∧
  decode [0b00000010#8] = .ok (.illegal 0x02#8, [])

/-! The step. -/

/-- 46_bus_dma_controller.md R230 to R232, 45_flags_system.md R219: where a step fetches, it runs exactly the instruction
whose bytes are fetched at `PC` after the PPU's cycle; then the instruction's first cycle is counted, interrupts are
routed and `clk` advances. Without a fatal condition or a request that is: one cycle less, `clk` one more. That the
fetching step counts the first cycle is the spec's own choice (decision D5), as is which step is a CPU slot (decision
D13). An IRQ is held off in a step only after an RTI that found the interrupt-disable flag set, and only if the
parameter says so (the model's, log entry 25). -/
def Obligations.StepRunsInstr : Prop :=
  ∀ s : State, s.fetches →
    ∃ (i : Instr) (f : State), decode (fetchInstrBytes (ppuClock s)).1 = .ok (i, []) ∧
      f = (fetchInstrBytes (ppuClock s)).2 ∧
      ∀ t, exec i f = .next t →
        step s = .next (endStep (s.params.rtiDelaysIrq && decide (i = .rti) && s.cpu.p.getLsbD 2) (countCycle t)) ∧
        (t.fatal = none → t.ppu.nmi = false → t.mapper.pending = false →
          step s = .next ((t.setCpu (t.cpu.setCycles (t.cpu.cycles - 1))).setClk (t.clk + 1)))

/-- 46_bus_dma_controller.md R232, 40_addressing_modes.md R100: when the three bytes at `PC` are bytes of memory and
decode to `i`, the fetch reads exactly the bytes of `i`, advances `PC` past them modulo 65536, latches the opcode and
changes nothing else. That the operand bytes are read before the instruction runs is the model's reading (log entry
13). -/
def Obligations.FetchFromMemory : Prop :=
  ∀ (s : State) (i : Instr) (rest : List Byte),
    standsMemory s.cpu.pc = true → standsMemory (s.cpu.pc + 1#16) = true → standsMemory (s.cpu.pc + 2#16) = true →
    decode [(memRead s.cpu.pc s).1, (memRead (s.cpu.pc + 1#16) s).1, (memRead (s.cpu.pc + 2#16) s).1] = .ok (i, rest) →
    fetchInstrBytes s =
      (encode i, s.setCpu ((s.cpu.setOpcode i.opcode).setPc (s.cpu.pc + BitVec.ofNat 16 i.length)))

/-- 46_bus_dma_controller.md R230, R231, R232, R239: what a step of a running block is outside a fetch: no CPU slot
when `clk` is no multiple of 3, a DMA slot while a transfer is active, else one outstanding cycle counted down. The
phase of the CPU slot is the spec's own choice (decision D13). -/
def Obligations.StepWithoutFetch : Prop :=
  ∀ s : State, s.running → s.hostQueue = [] →
    (s.clk % 3 ≠ 0 → step s = .next (endStep false (ppuClock s))) ∧
    (s.clk % 3 = 0 → s.dma.active = true → step s = .next (endStep false (dmaSlot (ppuClock s)))) ∧
    (s.clk % 3 = 0 → s.dma.active = false → s.cpu.cycles ≠ 0 →
      step s = .next (endStep false ((ppuClock s).setCpu (s.cpu.setCycles (s.cpu.cycles - 1)))))

/-- 46_bus_dma_controller.md R230, R234, 60_exceptions.md R423: every step of a block with a cartridge completes;
`clk` advances by one unless a fatal condition is there after it, when it stays; after a fatal condition a step
changes nothing. That the whole block stops is the spec's own choice (decision D33), as is the unbounded `clk`
(decision D13, log entry 11). -/
def Obligations.StepCompletes : Prop :=
  ∀ s : State, s.cart.prgBanks ≠ 0 → s.hostQueue = [] →
    ∃ t, step s = .next t ∧ (t.fatal = none → t.clk = s.clk + 1) ∧ (t.fatal ≠ none → t.clk = s.clk) ∧
      (s.fatal ≠ none → t = s)

/-- 49_mappers_cartridge.md R374, R398, R399, 20_memory.md R56, 46_bus_dma_controller.md R249: no Bus step changes the
cartridge's images, its other parameters or the block's, the host's inputs or the saved states. The host's moves, made
before the Bus step in their order, do what they name: the button masks and the frame-complete signal are changed, the
block is saved, and nothing else; a reset is the reset event; a load that is accepted is the power-on of the cartridge
that the image's header and body give, and one that is refused changes nothing; a restore puts back the saved block of
that number as a whole, or nothing where none was saved or the fatal status would change, which, unless the parameter
says otherwise, only a reset or a load does (10_state.md R17, 60_exceptions.md R441). A Bus step that no move is left
for drops its entry of the queue and is otherwise that of an idle host. How the host's moves stand in State, that a saved
block holds its cartridge, that the masks, being inputs, stay at a restore, and the parameter are the model's choices
(log entries 6 and 26); the header's bit positions are the spec's own (decision D40), which images are refused beside
R399's partly the model's (log entry 18). -/
def Obligations.CartridgeFixed : Prop :=
  (∀ s t : State, s.hostQueue = [] → step s = .next t →
    t.cart = s.cart ∧ t.params = s.params ∧ t.hostQueue = [] ∧ t.saves = s.saves ∧
    t.pads.buttons1 = s.pads.buttons1 ∧ t.pads.buttons2 = s.pads.buttons2) ∧
  (∀ (s : State) (m : HostMove) (ms : List HostMove) (rest : List (List HostMove)), s.hostQueue = (m :: ms) :: rest →
    step s = step ((applyMove (s.setHostQueue []) m).setHostQueue (ms :: rest))) ∧
  (∀ (s : State) (rest : List (List HostMove)), s.hostQueue = [] :: rest →
    step s = match step (s.setHostQueue []) with
      | .next t => .next (t.setHostQueue rest)
      | .fault f => .fault f
      | .refused r => .refused r) ∧
  (∀ (s : State) (b1 b2 : Byte),
    applyMove s (.buttons b1 b2) = s.setPads { s.pads with buttons1 := b1, buttons2 := b2 } ∧
    applyMove s .clearFrameComplete = s.setPpu { s.ppu with frameComplete := false } ∧
    applyMove s .save = s.setSaves (s.toBlock :: s.saves) ∧ applyMove s .reset = warmReset s) ∧
  (∀ (s : State) (image : List Byte),
    let byte := fun k : Nat => (image.getD k 0x00#8).toNat
    let number := 16 * (byte 7 / 16) + byte 6 / 16
    let accepted := image.take 4 = [0x4E#8, 0x45#8, 0x53#8, 0x1A#8] ∧ number ∈ [0, 1, 2, 3, 4, 66] ∧ byte 4 ≠ 0 ∧
      byte 6 / 4 % 2 = 0 ∧ 16 + 0x4000 * byte 4 + 0x2000 * byte 5 ≤ image.length
    (accepted → ∃ c : Cartridge, applyMove s (.load image) = powerOn c s ∧ c.prgBanks = byte 4 ∧ c.chrBanks = byte 5 ∧
      (match c.mapperId with | .nrom => 0 | .mmc1 => 1 | .uxrom => 2 | .cnrom => 3 | .mmc3 => 4 | .gxrom => 66) = number ∧
      c.headerMirror = (if byte 6 % 2 = 1 then .vertical else .horizontal) ∧
      (∀ k, k < 0x4000 * byte 4 → (Memory.read c.prg k).toNat = byte (16 + k)) ∧
      (∀ k, k < 0x2000 * byte 5 → (Memory.read c.chr k).toNat = byte (16 + 0x4000 * byte 4 + k))) ∧
    (¬ accepted → applyMove s (.load image) = s)) ∧
  (∀ (s : State) (k : Nat) (b : Block), s.saves[k]? = some b →
    applyMove s (.restore k) =
      if s.params.restoresFatal = true ∨ b.fatal = s.fatal then
        s.setBlock { b with pads := { b.pads with buttons1 := s.pads.buttons1, buttons2 := s.pads.buttons2 } }
      else s) ∧
  (∀ (s : State) (m : HostMove), s.params.restoresFatal = false → (applyMove s m).fatal ≠ s.fatal →
    (applyMove s m).fatal = none ∧ (m = .reset ∨ ∃ image, m = .load image)) ∧
  (∀ s t : State, t.saves = (applyMove s .save).saves → t.params.restoresFatal = true ∨ s.fatal = t.fatal →
    applyMove t (.restore 0) =
      t.setBlock { s.toBlock with pads := { s.pads with buttons1 := t.pads.buttons1, buttons2 := t.pads.buttons2 } }) ∧
  (∀ (s : State) (k : Nat), s.saves.length ≤ k → applyMove s (.restore k) = s)

/-! Addressing. -/

/-- 40_addressing_modes.md R102 to R105, R107 to R109, R115: the effective address and page-cross bit of the modes
without a pointer, as numbers; nothing changes but the `addr_abs` latch. That an immediate operand is not read a
second time is the model's reading (log entry 13). -/
def Obligations.DirectAddress : Prop :=
  ∀ (s : State) (v a : Byte) (w : Word),
    (∀ m, m ∈ [Mode.imm v, .zp0 a, .zpx a, .zpy a, .abs w, .abx w, .aby w] →
      (resolve m s).st = s.setCpu (s.cpu.setAddrAbs (resolve m s).addr)) ∧
    ((resolve (.imm v) s).addr + 1#16 = s.cpu.pc ∧ (operand (.imm v) (resolve (.imm v) s)).1 = v) ∧
    ((resolve (.zp0 a) s).addr.toNat = a.toNat) ∧
    ((resolve (.zpx a) s).addr.toNat = (a.toNat + s.cpu.x.toNat) % 256) ∧
    ((resolve (.zpy a) s).addr.toNat = (a.toNat + s.cpu.y.toNat) % 256) ∧
    ((resolve (.abs w) s).addr = w) ∧
    ((resolve (.abx w) s).addr.toNat = (w.toNat + s.cpu.x.toNat) % 65536) ∧
    ((resolve (.aby w) s).addr.toNat = (w.toNat + s.cpu.y.toNat) % 65536) ∧
    (∀ m, m ∈ [Mode.imm v, .zp0 a, .zpx a, .zpy a, .abs w] → (resolve m s).crossed = false) ∧
    (∀ m, m ∈ [Mode.abx w, .aby w] →
      ((resolve m s).crossed = true ↔ (resolve m s).addr.toNat / 256 ≠ w.toNat / 256))

/-- 40_addressing_modes.md R110 to R112: the three modes with a pointer. The zero-page pointers wrap inside page zero;
the indirect mode's high byte comes from the pointer's own page. -/
def Obligations.PointerAddress : Prop :=
  ∀ (s : State) (a : Byte) (p : Word),
    (let q := (a.toNat + s.cpu.x.toNat) % 256
     let r := resolve (.izx a) s
     r.addr.toNat = (s.ram.read q).toNat + 256 * (s.ram.read ((q + 1) % 256)).toNat ∧ r.crossed = false ∧
      r.st = s.setCpu (s.cpu.setAddrAbs r.addr)) ∧
    (let base := (s.ram.read a.toNat).toNat + 256 * (s.ram.read ((a.toNat + 1) % 256)).toNat
     let r := resolve (.izy a) s
     r.addr.toNat = (base + s.cpu.y.toNat) % 65536 ∧ (r.crossed = true ↔ r.addr.toNat / 256 ≠ base / 256) ∧
      r.st = s.setCpu (s.cpu.setAddrAbs r.addr)) ∧
    (let l := memRead p s
     let h := memRead (BitVec.ofNat 16 (p.toNat / 256 * 256 + (p.toNat + 1) % 256)) l.2
     let r := resolve (.ind p) s
     r.addr.toNat = l.1.toNat + 256 * h.1.toNat ∧ r.crossed = false ∧ r.st = h.2.setCpu (s.cpu.setAddrAbs r.addr))

/-! Instructions: each answers the next state that its rule gives. -/

/-- 41_load_store_transfer_stack.md R121 to R123: the loads, in every form. -/
def Obligations.LoadResult : Prop :=
  ∀ (i : Instr) (r : Reg) (f : Form) (s : State), loadForm i = some (r, f) → s.fatal = none →
    let a := resolve f.mode s
    let v := operand f.mode a
    i.opcode = f.opcode ∧
    ∃ t, exec i s = .next t ∧ onlyCpu v.2 t ∧ t.cpu.reg r = v.1 ∧ othersKept s t (some r) ∧
      flagsBecome s.cpu.p t.cpu.p none (some (v.1 == 0x00#8)) none (some (v.1.getLsbD 7)) ∧
      t.cpu.cycles = f.cycles a.crossed

/-- 41_load_store_transfer_stack.md R124 to R126: the stores, in every form: one Bus write of the register at the
resolved address, no flag. -/
def Obligations.StoreResult : Prop :=
  ∀ (i : Instr) (r : Reg) (f : Form) (s : State), storeForm i = some (r, f) → s.fatal = none →
    let a := resolve f.mode s
    i.opcode = f.opcode ∧
    exec i s = .next ((memWrite a.addr (s.cpu.reg r) a.st).setCpu ((s.cpu.setAddrAbs a.addr).setCycles f.base))

/-- 41_load_store_transfer_stack.md R127 to R132, 42_arithmetic_logic.md R161 to R164: the register transfers, increments
and decrements; TXS writes no flag. -/
def Obligations.RegisterResult : Prop :=
  ∀ s : State, s.fatal = none →
    (∀ (i : Instr) (op : Byte) (r : Reg) (v : Byte), registerForm s.cpu i = some (op, r, v) →
      i.opcode = op ∧
      ∃ t, exec i s = .next t ∧ onlyCpu s t ∧ t.cpu.reg r = v ∧ othersKept s t (some r) ∧
        flagsBecome s.cpu.p t.cpu.p none (some (v == 0x00#8)) none (some (v.getLsbD 7)) ∧ t.cpu.cycles = 2) ∧
    Instr.opcode .txs = 0x9A#8 ∧ exec .txs s = .next (s.setCpu ((s.cpu.setSp s.cpu.x).setCycles 2))

/-- 42_arithmetic_logic.md R150, R151: ADC and SBC in every form, the sum on naturals, SBC with the one's complement of
the operand. -/
def Obligations.AddResult : Prop :=
  ∀ (i : Instr) (sub : Bool) (f : Form) (s : State), addForm i = some (sub, f) → s.fatal = none →
    let a := resolve f.mode s
    let v := operand f.mode a
    let w := if sub then 0xFF#8 - v.1 else v.1
    let sum := s.cpu.a.toNat + w.toNat + (s.cpu.p.getLsbD 0).toNat
    let r := BitVec.ofNat 8 sum
    i.opcode = f.opcode ∧
    ∃ t, exec i s = .next t ∧ onlyCpu v.2 t ∧ t.cpu.a = r ∧ othersKept s t (some .a) ∧
      flagsBecome s.cpu.p t.cpu.p (some (decide (255 < sum))) (some (r == 0x00#8))
        (some (((s.cpu.a ^^^ r) &&& (w ^^^ r)).getLsbD 7)) (some (r.getLsbD 7)) ∧
      t.cpu.cycles = f.cycles a.crossed

/-- 42_arithmetic_logic.md R165: after ADC or SBC, V is set exactly when the true signed result lies outside -128 to 127;
after SBC, C is set exactly when no borrow is needed (R151). -/
def Obligations.OverflowIsSigned : Prop :=
  ∀ (i : Instr) (sub : Bool) (f : Form) (s t : State), addForm i = some (sub, f) → s.fatal = none →
    exec i s = .next t →
    let m := (operand f.mode (resolve f.mode s)).1
    let c := s.cpu.p.getLsbD 0
    let signed := if sub then s.cpu.a.toInt - m.toInt - (!c).toNat else s.cpu.a.toInt + m.toInt + c.toNat
    (t.cpu.p.getLsbD 6 = true ↔ signed < -128 ∨ 127 < signed) ∧
    (sub = true → (t.cpu.p.getLsbD 0 = true ↔ m.toNat + (!c).toNat ≤ s.cpu.a.toNat))

/-- 42_arithmetic_logic.md R152 to R154: AND, ORA, EOR in every form. -/
def Obligations.LogicResult : Prop :=
  ∀ (i : Instr) (k : Logic) (f : Form) (s : State), logicForm i = some (k, f) → s.fatal = none →
    let a := resolve f.mode s
    let v := operand f.mode a
    let r := k.apply s.cpu.a v.1
    i.opcode = f.opcode ∧
    ∃ t, exec i s = .next t ∧ onlyCpu v.2 t ∧ t.cpu.a = r ∧ othersKept s t (some .a) ∧
      flagsBecome s.cpu.p t.cpu.p none (some (r == 0x00#8)) none (some (r.getLsbD 7)) ∧
      t.cpu.cycles = f.cycles a.crossed

/-- 42_arithmetic_logic.md R155 to R157: the compares in every form write no register; N is bit 7 of the 8-bit
difference. -/
def Obligations.CompareResult : Prop :=
  ∀ (i : Instr) (q : Reg) (f : Form) (s : State), compareForm i = some (q, f) → s.fatal = none →
    let a := resolve f.mode s
    let v := operand f.mode a
    let r := s.cpu.reg q
    i.opcode = f.opcode ∧
    ∃ t, exec i s = .next t ∧ onlyCpu v.2 t ∧ othersKept s t none ∧
      flagsBecome s.cpu.p t.cpu.p (some (decide (v.1.toNat ≤ r.toNat))) (some (r == v.1)) none
        (some ((BitVec.ofNat 8 (r.toNat + 256 - v.1.toNat)).getLsbD 7)) ∧
      t.cpu.cycles = f.cycles a.crossed

/-- 42_arithmetic_logic.md R158: BIT in both forms; N and V come from the memory operand. -/
def Obligations.BitResult : Prop :=
  ∀ (i : Instr) (f : Form) (s : State), bitForm i = some f → s.fatal = none →
    let a := resolve f.mode s
    let v := operand f.mode a
    i.opcode = f.opcode ∧
    ∃ t, exec i s = .next t ∧ onlyCpu v.2 t ∧ othersKept s t none ∧
      flagsBecome s.cpu.p t.cpu.p none (some ((s.cpu.a &&& v.1) == 0x00#8)) (some (v.1.getLsbD 6))
        (some (v.1.getLsbD 7)) ∧
      t.cpu.cycles = f.base

/-- 42_arithmetic_logic.md R159, R160: INC and DEC in every form: one Bus read and one Bus write at the same address,
modulo 256, Z and N of the result. -/
def Obligations.IncDecResult : Prop :=
  ∀ (i : Instr) (up : Bool) (f : Form) (s : State), stepForm i = some (up, f) → s.fatal = none →
    let a := resolve f.mode s
    let v := memRead a.addr a.st
    let r := BitVec.ofNat 8 (if up then v.1.toNat + 1 else v.1.toNat + 255)
    i.opcode = f.opcode ∧
    ∃ t, exec i s = .next t ∧ onlyCpu (memWrite a.addr r v.2) t ∧ othersKept s t none ∧
      flagsBecome s.cpu.p t.cpu.p none (some (r == 0x00#8)) none (some (r.getLsbD 7)) ∧ t.cpu.cycles = f.base

/-- 43_shift_rotate.md R180 to R184: the shifts and rotates: the accumulator forms write `A` and touch no memory, the
memory forms make one Bus read and one Bus write and leave `A` alone. -/
def Obligations.ShiftResult : Prop :=
  ∀ (i : Instr) (k : Shift) (f : Form) (s : State), shiftForm i = some (k, f) → s.fatal = none →
    let c := s.cpu.p.getLsbD 0
    i.opcode = f.opcode ∧
    (f.mode = .acc →
      let r := BitVec.ofNat 8 (k.result c s.cpu.a)
      ∃ t, exec i s = .next t ∧ onlyCpu s t ∧ t.cpu.a = r ∧ othersKept s t (some .a) ∧
        flagsBecome s.cpu.p t.cpu.p (some (k.out s.cpu.a)) (some (r == 0x00#8)) none (some (r.getLsbD 7)) ∧
        t.cpu.cycles = f.base) ∧
    (f.mode ≠ .acc →
      let a := resolve f.mode s
      let v := memRead a.addr a.st
      let r := BitVec.ofNat 8 (k.result c v.1)
      ∃ t, exec i s = .next t ∧ onlyCpu (memWrite a.addr r v.2) t ∧ othersKept s t none ∧
        flagsBecome s.cpu.p t.cpu.p (some (k.out v.1)) (some (r == 0x00#8)) none (some (r.getLsbD 7)) ∧
        t.cpu.cycles = f.base)

/-- 44_control_flow.md R190: JMP in both forms. -/
def Obligations.JumpResult : Prop :=
  ∀ (i : Instr) (f : Form) (s : State), jumpForm i = some f → s.fatal = none →
    let a := resolve f.mode s
    i.opcode = f.opcode ∧
    exec i s = .next (a.st.setCpu (((s.cpu.setAddrAbs a.addr).setPc a.addr).setCycles f.base))

/-- 44_control_flow.md R191, R192: JSR, where both pushes fit, pushes the address of its last byte, high byte first;
RTS pulls the low byte, then the high byte, and adds one modulo 65536; the stack pointer wraps modulo 256. Which stack
operations are fatal is the spec's own choice (decision D9). -/
def Obligations.SubroutineResult : Prop :=
  ∀ (s : State) (w : Word), s.fatal = none →
    let ret := (s.cpu.pc.toNat + 65535) % 65536
    let stacked := fun k : Nat => (s.ram.read (0x100 + (s.cpu.sp.toNat + k) % 256)).toNat
    Instr.opcode (.jsr w) = 0x20#8 ∧ Instr.opcode .rts = 0x60#8 ∧
    (2 ≤ s.cpu.sp.toNat → exec (.jsr w) s = .next
      ((s.setRam (storePushes s.ram s.cpu.sp.toNat [BitVec.ofNat 8 (ret / 256), BitVec.ofNat 8 ret])).setCpu
        ((((s.cpu.setAddrAbs w).setSp (s.cpu.sp - 2#8)).setPc w).setCycles 6))) ∧
    exec .rts s = .next (s.setCpu (((s.cpu.setSp (s.cpu.sp + 2#8)).setPc
      (BitVec.ofNat 16 (stacked 1 + 256 * stacked 2 + 1))).setCycles 6))

/-- 44_control_flow.md R193 to R201, 40_addressing_modes.md R106: the eight branches; 2 cycles not taken, 3 taken to
the page of the next instruction, 4 taken to another page. The page that the target is compared with is the spec's own
choice (decision D37). -/
def Obligations.BranchResult : Prop :=
  ∀ (i : Instr) (f : BranchForm) (s : State), branchForm i = some f → s.fatal = none →
    let target := ((s.cpu.pc.toNat : Int) + f.displacement.toInt) % 65536
    let taken := s.cpu.p.getLsbD f.flag = f.value
    i.opcode = f.opcode ∧ i.length = 2 ∧
    ∃ t, exec i s = .next t ∧ onlyCpu s t ∧ (∀ q, t.cpu.reg q = s.cpu.reg q) ∧ t.cpu.sp = s.cpu.sp ∧
      t.cpu.p = s.cpu.p ∧ (taken → (t.cpu.pc.toNat : Int) = target) ∧ (¬ taken → t.cpu.pc = s.cpu.pc) ∧
      t.cpu.cycles = if taken then (if target / 256 = s.cpu.pc.toNat / 256 then 3 else 4) else 2

/-- 45_flags_system.md R210 to R217: a flag instruction writes its flag and no other bit; NOP writes nothing. -/
def Obligations.FlagResult : Prop :=
  ∀ s : State, s.fatal = none →
    (∀ (i : Instr) (op : Byte) (k : Nat) (b : Bool), flagForm i = some (op, k, b) →
      i.opcode = op ∧
      ∃ t, exec i s = .next t ∧ onlyCpu s t ∧ othersKept s t none ∧ t.cpu.cycles = 2 ∧
        ∀ j < 8, t.cpu.p.getLsbD j = if j = k then b else s.cpu.p.getLsbD j) ∧
    Instr.opcode .nop = 0xEA#8 ∧ exec .nop s = .next (s.setCpu (s.cpu.setCycles 2))

/-- 41_load_store_transfer_stack.md R133, R135, R136: PHA and PHP where the push fits; PHP pushes `P` with bits 4 and 5
set. -/
def Obligations.PushResult : Prop :=
  ∀ s : State, s.fatal = none → s.cpu.sp ≠ 0x00#8 →
    Instr.opcode .pha = 0x48#8 ∧ Instr.opcode .php = 0x08#8 ∧
    exec .pha s = .next ((s.setRam (s.ram.write (0x100 + s.cpu.sp.toNat) s.cpu.a)).setCpu
      ((s.cpu.setSp (s.cpu.sp - 1#8)).setCycles 3)) ∧
    exec .php s = .next ((s.setRam (s.ram.write (0x100 + s.cpu.sp.toNat) (s.cpu.p ||| 0x30#8))).setCpu
      ((s.cpu.setSp (s.cpu.sp - 1#8)).setCycles 3))

/-- 41_load_store_transfer_stack.md R134, R137, R138: PLA and PLP: the pointer is incremented first, modulo 256; PLP
leaves bit 4 of `P` 0 and bit 5 1. Bits 4 and 5 of the loaded `P` are the spec's own choice (decision D4). -/
def Obligations.PullResult : Prop :=
  ∀ s : State, s.fatal = none →
    let v := s.ram.read (0x100 + (s.cpu.sp.toNat + 1) % 256)
    Instr.opcode .pla = 0x68#8 ∧ Instr.opcode .plp = 0x28#8 ∧
    (∃ t, exec .pla s = .next t ∧ onlyCpu s t ∧ t.cpu.a = v ∧ t.cpu.x = s.cpu.x ∧ t.cpu.y = s.cpu.y ∧
      t.cpu.sp = s.cpu.sp + 1#8 ∧ t.cpu.pc = s.cpu.pc ∧ t.cpu.cycles = 4 ∧
      flagsBecome s.cpu.p t.cpu.p none (some (v == 0x00#8)) none (some (v.getLsbD 7))) ∧
    exec .plp s = .next (s.setCpu (((s.cpu.setSp (s.cpu.sp + 1#8)).setP ((v &&& 0xCF#8) ||| 0x20#8)).setCycles 4))

/-- 45_flags_system.md R218, 60_exceptions.md R426: BRK where its three pushes fit: the padding byte is skipped, `PC`
and `P` with bits 4 and 5 set are pushed, interrupt-disable is set, `PC` is loaded from 0xFFFE, low byte first. BRK is
the spec's own choice (decision D10). -/
def Obligations.BrkResult : Prop :=
  ∀ s : State, s.fatal = none → 3 ≤ s.cpu.sp.toNat →
    let ret := (s.cpu.pc.toNat + 1) % 65536
    Instr.opcode .brk = 0x00#8 ∧
    exec .brk s = .next
      ((s.setRam (storePushes s.ram s.cpu.sp.toNat
          [BitVec.ofNat 8 (ret / 256), BitVec.ofNat 8 ret, s.cpu.p ||| 0x30#8])).setCpu
        ((((s.cpu.setSp (s.cpu.sp - 3#8)).setP (s.cpu.p ||| 0x04#8)).setPc
          ((memRead 0xFFFF#16 s).1 ++ (memRead 0xFFFE#16 s).1)).setCycles 7))

/-- 45_flags_system.md R219, 60_exceptions.md R433: RTI pulls `P` (bits 4 and 5 ignored), then `PC`, low byte first,
with no addition. Bits 4 and 5 of the loaded `P` are the spec's own choice (decision D4). -/
def Obligations.RtiResult : Prop :=
  ∀ s : State, s.fatal = none →
    let stacked := fun k : Nat => s.ram.read (0x100 + (s.cpu.sp.toNat + k) % 256)
    Instr.opcode .rti = 0x40#8 ∧
    exec .rti s = .next (s.setCpu ((((s.cpu.setSp (s.cpu.sp + 3#8)).setP ((stacked 1 &&& 0xCF#8) ||| 0x20#8)).setPc
      (stacked 3 ++ stacked 2)).setCycles 6))

/-- 60_exceptions.md R421: every byte of R85 decodes to an illegal instruction, which records the byte and the address
it was fetched from (one below `PC`, modulo 65536) and changes nothing else. The set of 105 bytes is the spec's own
choice (decision D44). -/
def Obligations.IllegalResult : Prop :=
  ∀ (op : Byte) (s : State),
    (op ∈ illegalBytes → ∀ rest, decode (op :: rest) = .ok (.illegal op, rest)) ∧
    exec (.illegal op) s =
      .next (s.setFatal (some (.illegalOpcode op (BitVec.ofNat 16 (s.cpu.pc.toNat + 65535)))))

/-- 60_exceptions.md R422, R423, 41_load_store_transfer_stack.md R133: a pushing instruction that meets the stack
boundary: the pushes before it stand, nothing is stored at 0x0100, `SP` is 0, the status is fatal with the
instruction's address, and flags, the remaining effect and `cycles` are not performed. Where the condition is raised
and what it stops are the spec's own choices (decisions D9, D33). -/
def Obligations.StackBoundary : Prop :=
  ∀ (s : State) (w : Word), s.fatal = none →
    let stop := fun (t : State) (length : Nat) (bytes : List Byte) (pc : Word) =>
      t.fatal = some (.stackBoundary (.instr (s.cpu.pc - BitVec.ofNat 16 length))) ∧
      t.ram = storePushes s.ram s.cpu.sp.toNat (bytes.take s.cpu.sp.toNat) ∧ t.cpu.sp = 0x00#8 ∧ t.cpu.pc = pc ∧
      t.cpu.p = s.cpu.p ∧ t.cpu.cycles = s.cpu.cycles ∧ (∀ q, t.cpu.reg q = s.cpu.reg q)
    let jsrRet := s.cpu.pc - 1#16
    let brkRet := s.cpu.pc + 1#16
    (s.cpu.sp.toNat < 1 → (∃ t, exec .pha s = .next t ∧ stop t 1 [s.cpu.a] s.cpu.pc) ∧
      ∃ t, exec .php s = .next t ∧ stop t 1 [s.cpu.p ||| 0x30#8] s.cpu.pc) ∧
    (s.cpu.sp.toNat < 2 → ∃ t, exec (.jsr w) s = .next t ∧ stop t 3 [hiByte jsrRet, loByte jsrRet] s.cpu.pc) ∧
    (s.cpu.sp.toNat < 3 → ∃ t, exec .brk s = .next t ∧
      stop t 1 [hiByte brkRet, loByte brkRet, s.cpu.p ||| 0x30#8] brkRet)

/-! Frames: what every instruction leaves alone. -/

/-- 41 R121 to R138, 42 R150 to R166, 43 R180 to R184, 44 R190 to R201, 45 R210 to R219, 60_exceptions.md R421, the
"Flags written" line and the pseudocode of each rule: a data register that is not the instruction's destination, `SP`
unless it is a stack instruction or TXS, `PC` unless it transfers control, and every bit of `P` that its rule does not
name, stay; the opcode latch, `clk` and the parameters stay too. Of `cycles`, `addr_abs` and `addr_rel`, which an
instruction loads, nothing is said here. -/
def Obligations.RegisterFrame : Prop :=
  ∀ (i : Instr) (s t : State), exec i s = .next t →
    (∀ q, destination i ≠ some q → t.cpu.reg q = s.cpu.reg q) ∧
    (movesStack i = false → t.cpu.sp = s.cpu.sp) ∧
    (writesPc i = false → t.cpu.pc = s.cpu.pc) ∧
    (t.cpu.p &&& ~~~ flagsWritten i = s.cpu.p &&& ~~~ flagsWritten i) ∧
    t.cpu.opcode = s.cpu.opcode ∧ t.clk = s.clk ∧ t.params = s.params

/-- 40_addressing_modes.md R113, R114: an instruction that neither stores nor pushes leaves every byte of memory as it
was, as it stands and as the CPU and the PPU read it; it starts no DMA, writes no mapper register and hands nothing to
the sound unit. -/
def Obligations.MemoryFrame : Prop :=
  ∀ (i : Instr) (s t : State), pushes i = false → storedMode i = none → exec i s = .next t →
    memoryKept s t ∧ t.dma = s.dma ∧ t.mapper = s.mapper ∧ t.mirror = s.mirror ∧ t.apuWrites = s.apuWrites

/-- 41 R124 to R126, 42 R159, R160, 43 R180, 20_memory.md R52: a store or a read-modify-write changes, of all bytes of
memory, at most the one where a Bus write at its resolved address puts its byte; the CPU reads every other byte as
before, except that a write to 0x8000 to 0xFFFF may select other banks there. -/
def Obligations.StoreFrame : Prop :=
  ∀ (i : Instr) (m : Mode) (s t : State), storedMode i = some m → exec i s = .next t →
    let a := (resolve m s).addr
    let w := storeState i m s
    t.cart = s.cart ∧
    (∀ p : Place, storePlace w a ≠ some p → t.byteAt p = s.byteAt p) ∧
    (∀ b : Word, standsMemory b = true → (storePlace w a = none ∨ storePlace w b ≠ storePlace w a) →
      (b.toNat < 0x8000 ∨ a.toNat < 0x8000) → (memRead b t).1 = (memRead b s).1)

/-- 41 R133, 44 R191, 45 R218: a pushing instruction changes, of all bytes of memory, at most the stack bytes that its
pushes store to. -/
def Obligations.StackFrame : Prop :=
  ∀ (s t : State) (w : Word),
    (exec .pha s = .next t → memoryKeptButStack 1 s t) ∧
    (exec .php s = .next t → memoryKeptButStack 1 s t) ∧
    (exec (.jsr w) s = .next t → memoryKeptButStack 2 s t) ∧
    (exec .brk s = .next t → memoryKeptButStack 3 s t)

/-! Exceptions. -/

/-- 60_exceptions.md R429, R422, R423: interrupt entry for both vectors: where its three pushes fit, everything it
saves and changes; where it meets the stack boundary, the pushes before it stand, the fatal status names the
interrupt, and `P`, `PC` and `cycles` are not changed. That 7 replaces the outstanding count, and where the boundary
is met, are the spec's own choices (decisions D6, D9). -/
def Obligations.InterruptEntry : Prop :=
  ∀ (o : Origin) (v : Word) (s : State), v = 0xFFFA#16 ∨ v = 0xFFFE#16 → s.fatal = none →
    let saved := [hiByte s.cpu.pc, loByte s.cpu.pc, (s.cpu.p &&& 0xCF#8) ||| 0x20#8]
    (3 ≤ s.cpu.sp.toNat → interruptEntry o v s =
      (s.setRam (storePushes s.ram s.cpu.sp.toNat saved)).setCpu
        ((((s.cpu.setSp (s.cpu.sp - 3#8)).setP (s.cpu.p ||| 0x04#8)).setPc
          ((memRead (v + 1#16) s).1 ++ (memRead v s).1)).setCycles 7)) ∧
    (s.cpu.sp.toNat < 3 → interruptEntry o v s =
      ((s.setRam (storePushes s.ram s.cpu.sp.toNat (saved.take s.cpu.sp.toNat))).setCpu
        (s.cpu.setSp 0x00#8)).setFatal (some (.stackBoundary o)))

/-- 46_bus_dma_controller.md R230, R233, 60_exceptions.md R423, R427, R428, R431: the end of a step. Both requests are withdrawn
whatever the CPU does; NMI is entered regardless of the interrupt-disable flag; IRQ is entered only if that flag is clear,
and otherwise, also when NMI was entered in the same step, it is lost. It is lost too where it is held off, as
`StepRunsInstr` says when: in the step of an RTI, by 45_flags_system.md R219, if the model's parameter follows that rule
(log entry 25). An entry that meets the stack boundary, its request withdrawn, sets the fatal status and abandons the
rest: an IRQ's routing and the increment of `clk`. -/
def Obligations.InterruptRouting : Prop :=
  ∀ (s : State) (held : Bool), s.fatal = none →
    let q := (s.setPpu { s.ppu with nmi := false }).setMapper s.mapper.clearInterrupt
    q.mapper.pending = false ∧
    (s.ppu.nmi = true → 3 ≤ s.cpu.sp.toNat →
      endStep held s = (interruptEntry .nmi 0xFFFA#16 q).setClk (s.clk + 1)) ∧
    (s.ppu.nmi = false → s.mapper.pending = true → s.cpu.p.getLsbD 2 = false → held = false →
      3 ≤ s.cpu.sp.toNat →
      endStep held s = (interruptEntry .irq 0xFFFE#16 q).setClk (s.clk + 1)) ∧
    (s.ppu.nmi = false → (s.mapper.pending = true → s.cpu.p.getLsbD 2 = true ∨ held = true) →
      endStep held s = q.setClk (s.clk + 1)) ∧
    (s.ppu.nmi = true → s.cpu.sp.toNat < 3 →
      let t := interruptEntry .nmi 0xFFFA#16 (s.setPpu { s.ppu with nmi := false })
      endStep held s = t ∧ t.fatal = some (.stackBoundary .nmi) ∧ t.ppu.nmi = false ∧ t.mapper = s.mapper ∧
        t.clk = s.clk) ∧
    (s.ppu.nmi = false → s.mapper.pending = true → s.cpu.p.getLsbD 2 = false → held = false → s.cpu.sp.toNat < 3 →
      let t := interruptEntry .irq 0xFFFE#16 q
      endStep held s = t ∧ t.fatal = some (.stackBoundary .irq) ∧ t.mapper = q.mapper ∧ t.clk = s.clk)

/-- 60_exceptions.md R429, R433: RTI after an interrupt entry restores `PC`, `P` and `SP` and leaves `A`, `X`, `Y`. -/
def Obligations.RtiUndoesEntry : Prop :=
  ∀ (o : Origin) (v : Word) (s t : State), s.fatal = none → s.ram.wf = true → s.statusBitsFixed →
    v = 0xFFFA#16 ∨ v = 0xFFFE#16 → 3 ≤ s.cpu.sp.toNat → exec .rti (interruptEntry o v s) = .next t →
    t.cpu.pc = s.cpu.pc ∧ t.cpu.p = s.cpu.p ∧ t.cpu.sp = s.cpu.sp ∧ (∀ q, t.cpu.reg q = s.cpu.reg q) ∧ t.fatal = none

/-! Reset. -/

/-- 70_reset_and_hazards.md R451 to R456, 49_mappers_cartridge.md R400: every register after the reset event, whatever
came before; `PC` is the reset vector as the reset mapper shows it. The vector and most values are the spec's own
choices (decisions D2, D3, D42; log entry 17). -/
def Obligations.ResetRegisters : Prop :=
  ∀ s : State,
    let t := warmReset s
    t.cpu.a = 0x00#8 ∧ t.cpu.x = 0x00#8 ∧ t.cpu.y = 0x00#8 ∧ t.cpu.sp = 0xFD#8 ∧ t.cpu.p = 0x24#8 ∧
    t.cpu.cycles = s.params.resetCycles ∧ t.cpu.pc = (memRead 0xFFFD#16 t).1 ++ (memRead 0xFFFC#16 t).1 ∧
    t.cpu.opcode = 0x00#8 ∧ t.cpu.addrAbs = 0#16 ∧ t.cpu.addrRel = 0#16 ∧ t.fatal = none ∧ t.clk = 0 ∧ t.dma = ⟨0x00#8, 0x00#8, 0x00#8, true, false⟩ ∧
    t.ppu.control = 0x00#8 ∧ t.ppu.mask = 0x00#8 ∧ t.ppu.status = 0x00#8 ∧ t.ppu.vram = 0#15 ∧ t.ppu.tram = 0#15 ∧
    t.ppu.fineX = 0#3 ∧ t.ppu.latch = false ∧ t.ppu.dataBuffer = 0x00#8 ∧ t.ppu.oamAddr = 0x00#8 ∧
    t.ppu.bgId = 0x00#8 ∧ t.ppu.bgAttrib = 0x00#8 ∧ t.ppu.bgLsb = 0x00#8 ∧ t.ppu.bgMsb = 0x00#8 ∧
    t.ppu.shPatLo = 0#16 ∧ t.ppu.shPatHi = 0#16 ∧ t.ppu.shAttLo = 0#16 ∧ t.ppu.shAttHi = 0#16 ∧
    t.ppu.spr = List.replicate 8 ⟨0xFF#8, 0xFF#8, 0xFF#8, 0xFF#8, 0x00#8, 0x00#8⟩ ∧ t.ppu.sprCount = 0 ∧
    t.ppu.zeroPossible = false ∧ t.ppu.zeroRendered = false ∧ t.ppu.scanline = 0 ∧ t.ppu.cycle = 0 ∧
    t.ppu.oddFrame = false ∧ t.ppu.frameComplete = false ∧ t.ppu.nmi = false ∧
    t.mapper = Mapper.powerOn s.cart.mapperId ∧ t.mirror = s.cart.headerMirror.mode ∧
    t.pads.strobe = false ∧ t.pads.shift1 = 0x00#8 ∧ t.pads.shift2 = 0x00#8

/-- 70_reset_and_hazards.md R455, R457: a reset keeps RAM, name tables, palette and OAM and recreates the cartridge's
RAMs with `RAM_INIT`; power-on installs the cartridge, and every memory then holds its `RAM_INIT` or `OAM_INIT`,
whatever these parameters are. What is kept and what recreated are the spec's own choices (decisions D32, D42). -/
def Obligations.ResetMemories : Prop :=
  ∀ (s : State) (c : Cartridge) (k : Nat),
    let t := warmReset s
    let u := powerOn c s
    (∀ p : Place, (∀ j, p ≠ .prgRam j ∧ p ≠ .chrRam j) → t.byteAt p = s.byteAt p) ∧
    t.byteAt (.prgRam k) = initialByte s.params.initial (.prgRam k) ∧
    t.byteAt (.chrRam k) = initialByte s.params.initial (.chrRam k) ∧
    t.cart = s.cart ∧ t.params = s.params ∧ u.cart = c ∧ u.mapper = Mapper.powerOn c.mapperId ∧ u.params = s.params ∧
    (∀ p : Place, u.byteAt p = initialByte s.params.initial p)

/-! The Bus and the ports. -/

/-- 20_memory.md R53, R56, 49_mappers_cartridge.md R372, R374: a CPU write to RAM is read back at every mirror of the
address and at no other address of RAM; the add-on RAM likewise, without mirrors. The add-on RAM in every cartridge is
the spec's own choice (decision D29). -/
def Obligations.RamReadAfterWrite : Prop :=
  ∀ (s : State) (a b : Word) (v : Byte), s.memoriesSound →
    (a.toNat < 0x2000 → b.toNat < 0x2000 →
      (memRead b (memWrite a v s)).1 = if b.toNat % 0x800 = a.toNat % 0x800 then v else (memRead b s).1) ∧
    (0x6000 ≤ a.toNat → a.toNat < 0x8000 → 0x6000 ≤ b.toNat → b.toNat < 0x8000 →
      (memRead b (memWrite a v s)).1 = if b = a then v else (memRead b s).1)

/-- 20_memory.md R51, R52, R55, R76, 46 R246, R247, 47 R277, R286: addresses that nothing answers read as `OPEN_BUS`, a write
to a place without a register does nothing at all, and a write to an APU register hands its address and byte to the
sound unit and does nothing else. A read of 0x4015 returns the free value that the sound unit gives for that read,
a fresh one for each, and changes nothing but the count of such reads. The value `OPEN_BUS` is the spec's own parameter (decision D11, log entry 10); the
list of what has been handed over and the count of reads are the model's (log entry 7). -/
def Obligations.UnmappedAccess : Prop :=
  ∀ (s : State) (a : Word) (v : Byte),
    ((0x4000 ≤ a.toNat ∧ a.toNat ≤ 0x4014) ∨ (0x4018 ≤ a.toNat ∧ a.toNat ≤ 0x5FFF) ∨
      (0x2000 ≤ a.toNat ∧ a.toNat ≤ 0x3FFF ∧ a.toNat % 8 ∈ [0, 1, 3, 5, 6]) → memRead a s = (s.params.openBus, s)) ∧
    ((0x4018 ≤ a.toNat ∧ a.toNat ≤ 0x5FFF) ∨ (0x2000 ≤ a.toNat ∧ a.toNat ≤ 0x3FFF ∧ a.toNat % 8 = 2) →
      memWrite a v s = s) ∧
    ((0x4000 ≤ a.toNat ∧ a.toNat ≤ 0x4013) ∨ a.toNat = 0x4015 ∨ a.toNat = 0x4017 →
      memWrite a v s = s.setApuWrites ((a, v) :: s.apuWrites)) ∧
    (a.toNat = 0x4015 → memRead a s = (Config.apuRead s.apuDraws, s.setApuDraws (s.apuDraws + 1)))

/-- 47_ppu_registers_memory.md R283, R285, R288: reads of the status and data ports at every mirror, with their side
effects: the status read clears vertical blank and the write toggle; the data read answers the buffer, or at once in
palette space, refills the buffer and advances `vram` modulo 0x8000. The low five bits of a status read and the buffer
after a palette read are the spec's own choices (decisions D19, D38; log entry 21). -/
def Obligations.PortReads : Prop :=
  ∀ (s : State) (a : Word), 0x2000 ≤ a.toNat → a.toNat ≤ 0x3FFF →
    (a.toNat % 8 = 2 →
      memRead a s = ((s.ppu.status &&& 0xE0#8) ||| (s.ppu.dataBuffer &&& 0x1F#8),
        s.setPpu { s.ppu with status := s.ppu.status &&& 0x7F#8, latch := false })) ∧
    (a.toNat % 8 = 7 →
      let here := s.ppu.vram.toNat % 0x4000
      let inc := if s.ppu.control.getLsbD 2 then 32 else 1
      memRead a s = (if 0x3F00 ≤ here then ppuRead s here else s.ppu.dataBuffer,
        s.setPpu { s.ppu with dataBuffer := ppuRead s here, vram := BitVec.ofNat 15 (s.ppu.vram.toNat + inc) }))

/-- 47_ppu_registers_memory.md R275, R276, R280 to R282, R288: a CPU write at every mirror of the control, mask, scroll,
address and data ports, as numbers and with nothing else changed: the control byte with the name-table bits of `tram`;
the mask; the scroll or address fields of the half that the toggle selects, and the toggle; the data byte written to
the PPU's address space at `vram`, which then advances modulo 0x8000. Two writes to the scroll port, or to the address
port, from a clear toggle leave it clear. The fields are those of R274. That a write to the control port requests no NMI
is the spec's own choice (decision D24). -/
def Obligations.ScrollAndAddress : Prop :=
  ∀ (s : State) (u v : Byte),
    let scrolled := memWrite 0x2005#16 v (memWrite 0x2005#16 u s)
    let addressed := memWrite 0x2006#16 v (memWrite 0x2006#16 u s)
    (s.ppu.latch = false →
      (scrolled.ppu.fineX.toNat = u.toNat % 8 ∧
        scrolled.ppu.tram.toNat = u.toNat / 8 + 32 * (v.toNat / 8) + 1024 * (s.ppu.tram.toNat / 1024 % 4)
          + 4096 * (v.toNat % 8) ∧
        scrolled.ppu.latch = false ∧ scrolled.ppu.vram = s.ppu.vram) ∧
      (addressed.ppu.vram.toNat = 256 * (u.toNat % 64) + v.toNat ∧ addressed.ppu.tram = addressed.ppu.vram ∧
        addressed.ppu.latch = false ∧ addressed.ppu.fineX = s.ppu.fineX)) ∧
    ∀ a : Word, 0x2000 ≤ a.toNat → a.toNat ≤ 0x3FFF →
      let t := memWrite a v s
      let p := s.ppu
      let w := p.tram.toNat
      let n := v.toNat
      let inc := if p.control.getLsbD 2 then 32 else 1
      (a.toNat % 8 = 0 → t = s.setPpu { p with
        control := v, tram := BitVec.ofNat 15 (w % 1024 + 1024 * (n % 4) + 4096 * (w / 4096)) }) ∧
      (a.toNat % 8 = 1 → t = s.setPpu { p with mask := v }) ∧
      (a.toNat % 8 = 5 → p.latch = false → t = s.setPpu { p with
        fineX := BitVec.ofNat 3 n, tram := BitVec.ofNat 15 (w - w % 32 + n / 8), latch := true }) ∧
      (a.toNat % 8 = 5 → p.latch = true → t = s.setPpu { p with
        tram := BitVec.ofNat 15 (w % 32 + 32 * (n / 8) + 1024 * (w / 1024 % 4) + 4096 * (n % 8)), latch := false }) ∧
      (a.toNat % 8 = 6 → p.latch = false → t = s.setPpu { p with
        tram := BitVec.ofNat 15 (256 * (n % 64) + w % 256), latch := true }) ∧
      (a.toNat % 8 = 6 → p.latch = true → t = s.setPpu { p with
        tram := BitVec.ofNat 15 (256 * (w / 256) + n), vram := BitVec.ofNat 15 (256 * (w / 256) + n), latch := false }) ∧
      (a.toNat % 8 = 7 → t = (ppuWrite s p.vram.toNat v).setPpu { (ppuWrite s p.vram.toNat v).ppu with
        vram := BitVec.ofNat 15 (p.vram.toNat + inc) })

/-- 20_memory.md R65 to R67: in the PPU's address space a write to character RAM, name-table or palette space is read
back at the same address and at every address that shows the same byte (mirrored tables, palette aliases), palette
bytes through the six-bit or grayscale mask; other places keep their byte, and character ROM ignores the write. As
numbers: which of the two tables each quarter shows in each mirroring mode, and which palette addresses show one entry
(0x3F10, 0x3F14, 0x3F18, 0x3F1C those of 0x3F00, 0x3F04, 0x3F08, 0x3F0C; all repeat every 32). Where palette bytes are
masked and the mirroring table are the spec's own choices (decisions D20, D39). -/
def Obligations.PpuReadAfterWrite : Prop :=
  ∀ (s : State) (a b : Nat) (v : Byte), s.memoriesSound →
    let t := ppuWrite s a v
    (a % 0x4000 < 0x3F00 → ppuPlace s a ≠ none → ppuPlace s b = ppuPlace s a → ppuRead t b = v) ∧
    (0x3F00 ≤ a % 0x4000 → ppuPlace s b = ppuPlace s a →
      ppuRead t b = v &&& (if s.ppu.mask.getLsbD 0 then 0x30#8 else 0x3F#8)) ∧
    (0x2000 ≤ b → b < 0x3F00 →
      let tables := match s.mirror with
        | .vertical => [0, 1, 0, 1]
        | .horizontal => [0, 0, 1, 1]
        | .singleLow => [0, 0, 0, 0]
        | .singleHigh => [1, 1, 1, 1]
      ppuRead s b = (if tables[b / 0x400 % 4]? = some 1 then s.ppu.nt1 else s.ppu.nt0).read (b % 0x400)) ∧
    (∀ j k : Nat, j < 0x100 → k < 0x100 →
      ppuRead (ppuWrite s (0x3F00 + j) v) (0x3F00 + k) =
        if k % 32 = j % 32 ∨ (j % 4 = 0 ∧ k % 4 = 0 ∧ k % 16 = j % 16) then
          v &&& (if s.ppu.mask.getLsbD 0 then 0x30#8 else 0x3F#8)
        else ppuRead s (0x3F00 + k)) ∧
    (a % 0x4000 < 0x2000 → s.cart.chrBanks ≠ 0 → t = s) ∧
    (∀ p, ppuPlace s a ≠ some p → t.byteAt p = s.byteAt p)

/-- 47_ppu_registers_memory.md R278, R279, R284: OAM through its ports: the address port sets `oam_addr`; a data write
stores there and advances it modulo 256; a data read does not. The two OAM ports are the spec's own choice (decision
D18). -/
def Obligations.OamPorts : Prop :=
  ∀ (s : State) (k v w : Byte), s.memoriesSound →
    let t := memWrite 0x2004#16 v (memWrite 0x2003#16 k s)
    t.ppu.oamAddr.toNat = (k.toNat + 1) % 256 ∧
    (∀ j : Nat, t.ppu.oam.read j = if j = k.toNat then v else s.ppu.oam.read j) ∧
    memRead 0x2004#16 t = (t.ppu.oam.read t.ppu.oamAddr.toNat, t) ∧
    (memRead 0x2004#16 (memWrite 0x2003#16 w t)).1 = t.ppu.oam.read w.toNat

/-- 46_bus_dma_controller.md R242 to R244: a 1 and then a 0 written to 0x4016 latch both button masks; then the `n`-th
read of either controller (from 0) returns 0x40 with bit `n` of its mask, least significant first, and 0x41 from the
ninth on. While the strobe is held every read returns button A. The strobe and the bit order are the spec's own
choices (decision D16). -/
def Obligations.ControllerReads : Prop :=
  ∀ (s : State) (u v : Byte), u.getLsbD 0 = true → v.getLsbD 0 = false →
    let held := memWrite 0x4016#16 u s
    let s0 := memWrite 0x4016#16 v held
    let reads := fun (a : Word) (n : Nat) => (memRead a ((fun t : State => (memRead a t).2)^[n] s0)).1
    (∀ n : Nat, (reads 0x4016#16 n).toNat = if n < 8 then 0x40 + (s.pads.buttons1.getLsbD n).toNat else 0x41) ∧
    (∀ n : Nat, (reads 0x4017#16 n).toNat = if n < 8 then 0x40 + (s.pads.buttons2.getLsbD n).toNat else 0x41) ∧
    (memRead 0x4016#16 held).1.toNat = 0x40 + (s.pads.buttons1.getLsbD 0).toNat ∧ (memRead 0x4016#16 held).2 = held ∧
    (memRead 0x4017#16 held).1.toNat = 0x40 + (s.pads.buttons2.getLsbD 0).toNat ∧ (memRead 0x4017#16 held).2 = held

/-- 46_bus_dma_controller.md R236 to R238: an OAM DMA transfer from a page of memory, slot by slot (`clk` advances by
3 between CPU slots). After the write to 0x4014 in the slot before, the transfer ends in the 513th slot if its first
slot has odd `clk` and in the 514th if it is even, not earlier, and OAM is then the 256 bytes of the page in order.
The parity and the destination index are the spec's own choices (decisions D14, D15). -/
def Obligations.DmaTransfer : Prop :=
  ∀ (s : State) (page : Byte), s.memoriesSound → s.dma.dummy = true → page.toNat < 0x20 ∨ 0x60 ≤ page.toNat →
    let s0 := memWrite 0x4014#16 page s
    let run := fun n : Nat => (fun t : State => (dmaSlot t).setClk (t.clk + 3))^[n] s0
    let last := if s.clk % 2 = 1 then 513 else 514
    (∀ n < last, (run n).dma.active = true) ∧ (run last).dma.active = false ∧ (run last).dma.dummy = true ∧
    (∀ k : Nat, k < 256 →
      (run last).ppu.oam.read k = (memRead (page ++ BitVec.ofNat 8 k) s).1) ∧
    (run last).cpu = s.cpu ∧ (run last).ram = s.ram

/-! Mappers. -/

/-- 49_mappers_cartridge.md R378 to R382, R385, R386, R396: what a CPU write at 0x8000 to 0xFFFF does to the mappers
without a counter. NROM ignores it; UxROM takes the low nibble, CNROM the byte modulo the character banks, GxROM two
bits of each nibble; MMC1 sends it to its serial port. Five writes to that port, none with bit 7 set, from an empty
shift register, load the register that the fifth address selects with their five low bits, first bit lowest; a write
with bit 7 set, whatever the shift register holds, empties it and forces program mode 3 and leaves the mirroring mode. MMC1's register map, UxROM without bus conflicts
and CNROM's modulo are the spec's own choices (decisions D26, D25, D30). -/
def Obligations.Mmc1Load : Prop :=
  (∀ (s : State) (a : Word) (d : Byte), 0x8000 ≤ a.toNat →
    let t := memWrite a d s
    (s.mapper = .nrom → t = s) ∧
    (∀ r, s.mapper = .mmc1 r →
      t = (s.setMapper (.mmc1 (mmc1Write r s.mirror a.toNat d).1)).setMirror (mmc1Write r s.mirror a.toNat d).2) ∧
    (∀ q, s.mapper = .uxrom q → t = s.setMapper (.uxrom (BitVec.ofNat 4 d.toNat))) ∧
    (∀ q, s.mapper = .cnrom q →
      t = s.setMapper (.cnrom (BitVec.ofNat 8 (if s.cart.chrBanks = 0 then 0 else d.toNat % s.cart.chrBanks)))) ∧
    (∀ q q', s.mapper = .gxrom q q' →
      t = s.setMapper (.gxrom (BitVec.ofNat 2 d.toNat) (BitVec.ofNat 2 (d.toNat / 16))))) ∧
  (∀ (r : Mmc1) (mir : Mirror) (a : Nat) (k : Byte), k.getLsbD 7 = true →
    mmc1Write r mir a k = ({ r with shift := 0#5, shiftCount := 0, control := r.control ||| 0x0C#5 }, mir)) ∧
  ∀ (r : Mmc1) (mir : Mirror) (a b c d e : Nat) (v w x y z : Byte), r.shiftCount = 0 →
    v.getLsbD 7 = false → w.getLsbD 7 = false → x.getLsbD 7 = false → y.getLsbD 7 = false → z.getLsbD 7 = false →
    0x8000 ≤ e → e < 0x10000 →
    let q1 := mmc1Write r mir a v
    let q2 := mmc1Write q1.1 q1.2 b w
    let q3 := mmc1Write q2.1 q2.2 c x
    let q4 := mmc1Write q3.1 q3.2 d y
    let q5 := mmc1Write q4.1 q4.2 e z
    let bits := v.toNat % 2 + 2 * (w.toNat % 2) + 4 * (x.toNat % 2) + 8 * (y.toNat % 2) + 16 * (z.toNat % 2)
    q5.1.shiftCount = 0 ∧
    q5.1.control.toNat = (if e < 0xA000 then bits else r.control.toNat) ∧
    q5.1.chrBank0.toNat = (if 0xA000 ≤ e ∧ e < 0xC000 then bits else r.chrBank0.toNat) ∧
    q5.1.chrBank1.toNat = (if 0xC000 ≤ e ∧ e < 0xE000 then bits else r.chrBank1.toNat) ∧
    q5.1.prgBank.toNat = (if 0xE000 ≤ e then bits else r.prgBank.toNat) ∧
    q5.2 = (if e < 0xA000 then
        (match bits % 4 with | 0 => Mirror.singleLow | 1 => .singleHigh | 2 => .vertical | _ => .horizontal)
      else mir) ∧
    ∀ k : Byte, k.getLsbD 7 = true →
      (mmc1Write q4.1 q4.2 a k).1 = { r with shift := 0#5, shiftCount := 0, control := r.control ||| 0x0C#5 }

/-- 49_mappers_cartridge.md R374, R378, R383, R385, R386, R389, R396, R397: a CPU read at 0x8000 to 0xFFFF is the byte of
the program image at the mapper's offset, and changes nothing; the program windows of the six mappers, fixed and
switchable, as numbers; every program offset stays inside the image. NROM and CNROM show the image in order, a single
16KB bank twice; UxROM and MMC1 in mode 3 show the last 16KB bank at 0xC000, MMC1 in mode 2 the first at 0x8000; MMC3
shows its last 8KB bank at 0xE000 and the one before it at 0xC000 or, in program mode 1, at 0x8000, whatever the bank
registers hold. MMC1's and MMC3's register maps and the reduction modulo the image are the spec's own choices
(decisions D26, D27, D28). -/
def Obligations.FixedWindows : Prop :=
  ∀ (s : State) (a : Nat), s.cart.prgBanks ≠ 0 → 0x8000 ≤ a → a < 0x10000 →
    let size := 0x4000 * s.cart.prgBanks
    let last := 0x4000 * (s.cart.prgBanks - 1)
    memRead (BitVec.ofNat 16 a) s = (Memory.read s.cart.prg (prgOffset s a), s) ∧
    prgOffset s a < size ∧
    (s.mapper = .nrom ∨ (∃ sel, s.mapper = .cnrom sel) →
      prgOffset s a = if s.cart.prgBanks = 1 then a % 0x4000 else a % 0x8000) ∧
    (∀ sel, s.mapper = .uxrom sel →
      prgOffset s a = if 0xC000 ≤ a then last + a % 0x4000 else (0x4000 * sel.toNat + a % 0x4000) % size) ∧
    (∀ c p, s.mapper = .gxrom c p → prgOffset s a = (0x8000 * p.toNat + a % 0x8000) % size) ∧
    (∀ r, s.mapper = .mmc1 r →
      let switched := (0x4000 * (r.prgBank.toNat % 16) + a % 0x4000) % size
      (r.control.getLsbD 3 = true → r.control.getLsbD 2 = true →
        prgOffset s a = if 0xC000 ≤ a then last + a % 0x4000 else switched) ∧
      (r.control.getLsbD 3 = true → r.control.getLsbD 2 = false →
        prgOffset s a = if 0xC000 ≤ a then switched else a % 0x4000) ∧
      (r.control.getLsbD 3 = false → prgOffset s a = (0x8000 * (r.prgBank.toNat / 2 % 8) + a % 0x8000) % size)) ∧
    (∀ r, s.mapper = .mmc3 r →
      let switched := fun k : Nat => (0x2000 * ((r.bank k).toNat % 64) + a % 0x2000) % size
      let exchanged := a < 0xA000 ∧ r.prgMode = true ∨ 0xC000 ≤ a ∧ r.prgMode = false
      prgOffset s a =
        if 0xE000 ≤ a then last + 0x2000 + a % 0x2000
        else if 0xA000 ≤ a ∧ a < 0xC000 then switched 7
        else if exchanged then last + a % 0x2000
        else switched 6)

/-- 49_mappers_cartridge.md R373, R375, R378, R384 to R386, R390, R396, R397: a PPU read below 0x2000 is the byte of the
character image, or of character RAM where the cartridge has no such image, at the mapper's offset reduced modulo its
size. The character windows of the six mappers, as numbers: NROM and UxROM show the image in order, CNROM and GxROM the
selected 8KB bank, MMC1 two 4KB banks or an 8KB bank whose bit 0 is ignored. MMC3's character inversion exchanges the
two 4KB halves of the eight windows and nothing else; without it windows 0 to 3 show the pairs of registers 0 and 1,
whose bit 0 is ignored, and windows 4 to 7 registers 2 to 5. MMC1's bits, which registers feed which windows of MMC3 and
the reduction are the spec's own choices (decisions D26, D27, D28). -/
def Obligations.Mmc3Characters : Prop :=
  (∀ (s : State) (a : Nat), a < 0x2000 →
    ppuRead s a = if s.cart.chrBanks = 0 then s.chrRam.read (mapChr s.mapper a % 0x2000)
      else Memory.read s.cart.chr (mapChr s.mapper a % (0x2000 * s.cart.chrBanks))) ∧
  (∀ a : Nat, a < 0x2000 →
    mapChr .nrom a = a ∧ (∀ q, mapChr (.uxrom q) a = a) ∧ (∀ q, mapChr (.cnrom q) a = 0x2000 * q.toNat + a) ∧
    (∀ q q', mapChr (.gxrom q q') a = 0x2000 * q.toNat + a) ∧
    ∀ r : Mmc1,
      (r.control.getLsbD 4 = true →
        mapChr (.mmc1 r) a = 0x1000 * (if a < 0x1000 then r.chrBank0 else r.chrBank1).toNat + a % 0x1000) ∧
      (r.control.getLsbD 4 = false → mapChr (.mmc1 r) a = 0x2000 * (r.chrBank0.toNat / 2) + a)) ∧
  ∀ (r : Mmc3) (a : Nat), a < 0x2000 →
    mapChr (.mmc3 { r with chrInv := true }) a = mapChr (.mmc3 { r with chrInv := false }) ((a + 0x1000) % 0x2000) ∧
    (a < 0x1000 →
      mapChr (.mmc3 { r with chrInv := false }) a =
        0x400 * (2 * ((r.bank (a / 0x800)).toNat / 2) + a / 0x400 % 2) + a % 0x400) ∧
    (0x1000 ≤ a →
      mapChr (.mmc3 { r with chrInv := false }) a = 0x400 * (r.bank (2 + (a - 0x1000) / 0x400)).toNat + a % 0x400)

/-- 49_mappers_cartridge.md R387, R388, R391 to R395: MMC3's registers and counter. A CPU write at 0x8000 to 0xFFFF loads
the one register that its address range and parity select; only the mirroring register changes the mirroring mode.
From 0, an enabled counter with latch `L` raises its request in tick `L + 1` and in none before; withdrawn (disabled)
it raises none. The register map is the spec's own choice (decision D27), which address of the pair at 0xE000 disables
a parameter (log entry 16). -/
def Obligations.Mmc3Counter : Prop :=
  (∀ (s : State) (r : Mmc3) (a : Word) (d : Byte), s.mapper = .mmc3 r → 0x8000 ≤ a.toNat →
    let n := a.toNat
    let even := n % 2 = 0
    let mirroring := 0xA000 ≤ n ∧ n < 0xC000 ∧ even
    ∃ q : Mmc3,
      memWrite a d s = (s.setMapper (.mmc3 q)).setMirror
        (if mirroring then (if d.getLsbD 0 then .horizontal else .vertical) else s.mirror) ∧
      (n < 0xA000 → even →
        q = { r with target := BitVec.ofNat 3 d.toNat, prgMode := d.getLsbD 6, chrInv := d.getLsbD 7 }) ∧
      (n < 0xA000 → ¬ even → q = { r with reg := q.reg } ∧ q.reg.length = r.reg.length ∧
        ∀ j, j < r.reg.length → q.bank j = if j = r.target.toNat then d else r.bank j) ∧
      (0xA000 ≤ n → n < 0xC000 → q = if even then { r with mirror := d.getLsbD 0 } else r) ∧
      (0xC000 ≤ n → n < 0xE000 → q = if even then { r with irqLatch := d } else { r with irqCounter := 0x00#8 }) ∧
      (0xE000 ≤ n → q = if (even ↔ s.params.mmc3EvenDisables = true) then { r with irqEnable := false, irqActive := false }
        else { r with irqEnable := true })) ∧
  ∀ (r : Mmc3), r.irqCounter = 0x00#8 → r.irqActive = false →
    let after := fun n : Nat => Mmc3.tick^[n] r
    (∀ n, n ≤ r.irqLatch.toNat → (after n).irqActive = false) ∧
    (after (r.irqLatch.toNat + 1)).irqActive = r.irqEnable ∧ (after (r.irqLatch.toNat + 1)).irqCounter = 0x00#8 ∧
    (r.irqEnable = false → ∀ n, (after n).irqActive = false)

/-! The PPU. -/

/-- 48_ppu_rendering.md R320 to R322: one PPU cycle moves the position by one, with the odd-frame skip and the wraps;
the frame-complete signal and the parity change at the wrap only. Where the frame parity is kept is the spec's own
choice (decision D23). -/
def Obligations.PositionAdvance : Prop :=
  ∀ s : State, s.ppuInRange →
    let p := s.ppu
    let q := (ppuClock s).ppu
    let skip := p.scanline = 0 ∧ p.cycle = 0 ∧ p.oddFrame = true ∧
      (p.mask.getLsbD 3 = true ∨ p.mask.getLsbD 4 = true)
    let wraps := p.scanline = 260 ∧ p.cycle = 340
    (skip → q.cycle = 2) ∧ (¬ skip → q.cycle = (p.cycle + 1) % 341) ∧
    (q.scanline = if wraps then -1 else if p.cycle = 340 then p.scanline + 1 else p.scanline) ∧
    (q.oddFrame = if wraps then !p.oddFrame else p.oddFrame) ∧
    (q.frameComplete = if wraps then true else p.frameComplete)

/-- 48_ppu_rendering.md R323, R342, R343: the vertical-blank flag is set at (241, 1) and cleared at (-1, 1) and kept by
every other PPU cycle; NMI is requested at (241, 1) if enabled and by no other PPU cycle. At (-1, 1) the other two status
flags are cleared as well, and the shifters of every sprite slot, which otherwise stays. With rendering enabled the cycle
at position 260 of lines -1 to 239 ticks MMC3's counter; no other PPU cycle and no other mapper does anything there. That
nothing else requests an NMI and the reading of "cycle 260" are the spec's own choices (decisions D24, D47). -/
def Obligations.VerticalBlank : Prop :=
  ∀ s : State,
    let p := s.ppu
    let q := (ppuClock s).ppu
    let begins := p.scanline = 241 ∧ p.cycle = 1
    let ends := p.scanline = -1 ∧ p.cycle = 1
    q.status.getLsbD 7 = (if begins then true else if ends then false else p.status.getLsbD 7) ∧
    q.nmi = (if begins ∧ p.control.getLsbD 7 = true then true else p.nmi) ∧
    (ends → q.status = p.status &&& 0x1F#8 ∧ q.spr = p.spr.map fun d => { d with lo := 0x00#8, hi := 0x00#8 }) ∧
    (let ticks := -1 ≤ p.scanline ∧ p.scanline ≤ 239 ∧ p.cycle = 260 ∧
      (p.mask.getLsbD 3 = true ∨ p.mask.getLsbD 4 = true)
    (∀ r, s.mapper = .mmc3 r → (ppuClock s).mapper = .mmc3 (if ticks then r.tick else r)) ∧
    ((∀ r, s.mapper ≠ .mmc3 r) → (ppuClock s).mapper = s.mapper))

/-- 48_ppu_rendering.md R334 to R336: sprite evaluation selects the first eight OAM entries, in order, whose rows cover
the line, and sets the overflow flag exactly when there are more. The pattern load gives each selected sprite whose
row is on the line the two pattern bytes of that row, flipped as its attribute says, and changes nothing else. The
exact count for the overflow flag is the spec's own choice (decision D41). -/
def Obligations.SpriteEvaluation : Prop :=
  (∀ s : State,
    let p := s.ppu
    let t := loadSpritePatterns s
    t = s.setPpu { p with spr := t.ppu.spr } ∧ t.ppu.spr.length = p.spr.length ∧
    ∀ (k : Nat) (d : SpriteSlot), p.spr[k]? = some d →
      (p.sprCount ≤ k → t.ppu.spr[k]? = some d) ∧
      (k < p.sprCount → ∀ row : Nat, (row : Int) = p.scanline - d.y.toNat →
        row < (if p.control.getLsbD 5 then 16 else 8) →
        let line := if d.attr.getLsbD 7 then (if p.control.getLsbD 5 then 15 else 7) - row else row
        let addr := if p.control.getLsbD 5 then
            0x1000 * (d.id.toNat % 2) + 16 * (d.id.toNat / 2 * 2 + line / 8) + line % 8
          else 0x1000 * (p.control.getLsbD 3).toNat + 16 * d.id.toNat + line
        ∃ e, t.ppu.spr[k]? = some e ∧ e = { d with lo := e.lo, hi := e.hi } ∧
          ∀ j < 8, e.lo.getLsbD j = (ppuRead s addr).getLsbD (if d.attr.getLsbD 6 then 7 - j else j) ∧
            e.hi.getLsbD j = (ppuRead s (addr + 8)).getLsbD (if d.attr.getLsbD 6 then 7 - j else j))) ∧
  ∀ p : Ppu,
    let h : Int := if p.control.getLsbD 5 then 16 else 8
    let covers := fun n : Nat =>
      decide ((p.oam.read (4 * n)).toNat ≤ p.scanline ∧ p.scanline < (p.oam.read (4 * n)).toNat + h)
    let chosen := (List.range 64).filter covers
    let q := evaluateSprites p
    q.spr.length = 8 ∧ q.sprCount = min 8 chosen.length ∧
    (∀ k, k < 8 → ∀ n, chosen[k]? = some n → ∃ d, q.spr[k]? = some d ∧ d.y = p.oam.read (4 * n) ∧
      d.id = p.oam.read (4 * n + 1) ∧ d.attr = p.oam.read (4 * n + 2) ∧ d.x = p.oam.read (4 * n + 3)) ∧
    (∀ k, chosen.length ≤ k → k < 8 → q.spr[k]? = some SpriteSlot.empty) ∧
    (q.zeroPossible = true ↔ 0 ∈ chosen) ∧
    q.status.getLsbD 5 = (p.status.getLsbD 5 || decide (8 < chosen.length)) ∧
    q.oam = p.oam ∧ q.vram = p.vram

/-- 48_ppu_rendering.md R337 to R341: composition stores, for the pixel at (cycle - 1, scanline), the palette byte of
the pair that the priority table gives, and no other pixel; where both layers are transparent that is the backdrop.
The background pixel is the shifters' bits at the fine-x position; the sprite is the first whose delay is over and
whose pixel is opaque; both only where the mask shows the layer. The sprite-zero flag is set exactly where both layers
are enabled and opaque, the sprite shown is slot 0 and holds OAM entry 0; no other status bit changes. A PPU cycle
composes on lines 0 to 239 at cycles 1 to 256, after its fetch work (R344), and in no other cycle is a pixel stored or the
flag set. The pixel's place, the area of composition and that pixel 255 is not excluded are the spec's own choice
(decision D21). That a pixel is kept as its palette value is log entry 8. -/
def Obligations.PixelStored : Prop :=
  (∀ s : State,
    let p := s.ppu
    let q := (ppuClock s).ppu
    let m := if -1 ≤ p.scanline ∧ p.scanline ≤ 239 then fetchWork s else s
    let skip := p.scanline = 0 ∧ p.cycle = 0 ∧ p.oddFrame = true ∧
      (p.mask.getLsbD 3 = true ∨ p.mask.getLsbD 4 = true)
    let c := if skip then 1 else p.cycle
    m.ppu.scanline = p.scanline ∧ m.ppu.cycle = c ∧ m.ppu.frame = p.frame ∧
    (q.shPatLo = m.ppu.shPatLo ∧ q.shPatHi = m.ppu.shPatHi ∧ q.shAttLo = m.ppu.shAttLo ∧ q.shAttHi = m.ppu.shAttHi ∧
      q.spr = m.ppu.spr ∧ q.sprCount = m.ppu.sprCount ∧ q.zeroPossible = m.ppu.zeroPossible) ∧
    (0 ≤ p.scanline → p.scanline ≤ 239 → 1 ≤ c → c ≤ 256 →
      q.frame = (composePixel m).ppu.frame ∧ q.status = (composePixel m).ppu.status) ∧
    (¬ (0 ≤ p.scanline ∧ p.scanline ≤ 239 ∧ 1 ≤ c ∧ c ≤ 256) →
      q.frame = p.frame ∧
      q.status.getLsbD 6 = if p.scanline = -1 ∧ p.cycle = 1 then false else p.status.getLsbD 6)) ∧
  ∀ s : State, s.ppu.visibleLine = true → 1 ≤ s.ppu.cycle → s.ppu.cycle ≤ 256 →
    let p := s.ppu
    let t := composePixel s
    let key := 256 * p.scanline.toNat + (p.cycle - 1)
    let sprite := p.foreground.map (fun f => f.2)
    let pair : Nat × Nat :=
      match decide (p.bgPixel = 0#2), sprite with
      | true, none => (0, 0)
      | true, some d => (4 + d.attr.toNat % 4, d.pixel.toNat)
      | false, none => (p.bgPalette.toNat, p.bgPixel.toNat)
      | false, some d =>
        if d.attr.getLsbD 5 then (p.bgPalette.toNat, p.bgPixel.toNat) else (4 + d.attr.toNat % 4, d.pixel.toNat)
    let bgOn := p.mask.getLsbD 3 = true ∧ (p.mask.getLsbD 1 = true ∨ 9 ≤ p.cycle)
    let sprOn := p.mask.getLsbD 4 = true ∧ (p.mask.getLsbD 2 = true ∨ 9 ≤ p.cycle)
    let bit := fun w : Word => w.toNat / 2 ^ (15 - p.fineX.toNat) % 2
    let shows := fun d : SpriteSlot => if d.x = 0x00#8 then d.lo.toNat / 128 + 2 * (d.hi.toNat / 128) else 0
    p.bgPixel.toNat = (if bgOn then bit p.shPatLo + 2 * bit p.shPatHi else 0) ∧
    p.bgPalette.toNat = (if bgOn then bit p.shAttLo + 2 * bit p.shAttHi else 0) ∧
    (∀ d : SpriteSlot, d.pixel.toNat = shows d) ∧
    (∀ k d, p.foreground = some (k, d) ↔ sprOn ∧ k < p.sprCount ∧ p.spr[k]? = some d ∧ shows d ≠ 0 ∧
      ∀ j < k, ∀ e, p.spr[j]? = some e → shows e = 0) ∧
    (t.ppu.status.getLsbD 6 = true ↔ p.status.getLsbD 6 = true ∨
      (p.bgPixel ≠ 0#2 ∧ (∃ d, p.foreground = some (0, d)) ∧ p.zeroPossible = true ∧ p.mask.getLsbD 3 = true ∧
        p.mask.getLsbD 4 = true ∧ ((p.mask.getLsbD 1 = true ∧ p.mask.getLsbD 2 = true) ∨ 9 ≤ p.cycle))) ∧
    (∀ j, j ≠ 6 → t.ppu.status.getLsbD j = p.status.getLsbD j) ∧
    cellGet t.ppu.frame key = some (ppuRead s (0x3F00 + 4 * pair.1 + pair.2) &&& 0x3F#8) ∧
    (∀ k, k ≠ key → cellGet t.ppu.frame k = cellGet p.frame k) ∧
    key < 256 * 240

/-- 48_ppu_rendering.md R324 to R335: what one PPU cycle does to the registers behind the picture, as numbers: the
column and row advance of `vram` and the two transfers from `tram` (with rendering enabled, on lines -1 to 239), the
four background fetches with their addresses, the background shifters and their reload, and the sprite slots: cleared at
(-1, 1), their delays and shifters counted at cycles 2 to 257, evaluated at 257 and loaded at 340 of the visible lines, as
they were in every other cycle. The other port registers and every memory stay, and nothing outside the PPU but the
mapper changes. Fetching with rendering disabled and the load at cycle 340 are the spec's own choices (decisions D21,
D22). -/
def Obligations.RenderCycle : Prop :=
  ∀ s : State,
    let p := s.ppu
    let q := (ppuClock s).ppu
    let c := p.cycle
    let line := -1 ≤ p.scanline ∧ p.scanline ≤ 239
    let enabled := p.mask.getLsbD 3 = true ∨ p.mask.getLsbD 4 = true
    let window := line ∧ ((2 ≤ c ∧ c ≤ 257) ∨ (321 ≤ c ∧ c ≤ 337))
    let phase := (c - 1) % 8
    let v := p.vram.toNat
    let w := p.tram.toNat
    let column := if v % 32 = 31 then (if v / 1024 % 2 = 0 then v - 31 + 1024 else v - 31 - 1024) else v + 1
    let row := fun n : Nat =>
      if n / 4096 < 7 then n + 4096
      else if n / 32 % 32 = 29 then (if n / 2048 % 2 = 0 then n % 4096 - 928 + 2048 else n % 4096 - 928 - 2048)
      else if n / 32 % 32 = 31 then n % 4096 - 992
      else n % 4096 + 32
    let horizontal := fun n : Nat => n % 32 + 1024 * (n / 1024 % 2)
    let shifted := fun x : Nat => if p.mask.getLsbD 3 = true then 2 * x % 65536 else x
    let after := fun (x : Word) (low : Nat) =>
      if window then (if phase = 0 then shifted x.toNat / 256 * 256 + low else shifted x.toNat) else x.toNat
    let tile := 4096 * (p.control.getLsbD 4).toNat + 16 * p.bgId.toNat + v / 4096
    (q.vram.toNat =
      if ¬ (line ∧ enabled) then v
      else if c = 256 then row column
      else if c = 257 then v - horizontal v + horizontal w
      else if p.scanline = -1 ∧ 280 ≤ c ∧ c ≤ 304 then horizontal v + (w - horizontal w)
      else if window ∧ phase = 7 then column
      else v) ∧
    (q.tram = p.tram ∧ q.fineX = p.fineX ∧ q.latch = p.latch ∧ q.control = p.control ∧ q.mask = p.mask ∧
      q.oamAddr = p.oamAddr ∧ q.dataBuffer = p.dataBuffer) ∧
    (q.bgId = if window ∧ phase = 0 then ppuRead s (0x2000 + v % 4096) else p.bgId) ∧
    (q.bgAttrib.toNat =
      if window ∧ phase = 2 then
        (ppuRead s (0x23C0 + 1024 * (v / 1024 % 4) + 8 * (v / 128 % 8) + v / 4 % 8)).toNat
          / 4 ^ (2 * (v / 64 % 2) + v / 2 % 2) % 4
      else p.bgAttrib.toNat) ∧
    (q.bgLsb = if window ∧ phase = 4 then ppuRead s tile else p.bgLsb) ∧
    (q.bgMsb = if window ∧ phase = 6 then ppuRead s (tile + 8) else p.bgMsb) ∧
    (q.shPatLo.toNat = after p.shPatLo p.bgLsb.toNat ∧ q.shPatHi.toNat = after p.shPatHi p.bgMsb.toNat ∧
      q.shAttLo.toNat = after p.shAttLo (255 * (p.bgAttrib.getLsbD 0).toNat) ∧
      q.shAttHi.toNat = after p.shAttHi (255 * (p.bgAttrib.getLsbD 1).toNat)) ∧
    (let evaluates := line ∧ 0 ≤ p.scanline ∧ c = 257
    let loads := line ∧ 0 ≤ p.scanline ∧ c = 340
    let clears := p.scanline = -1 ∧ c = 1
    let counts := line ∧ 2 ≤ c ∧ c ≤ 257 ∧ ¬ evaluates
    (counts → ∀ k : Nat, q.spr[k]? = (p.spr[k]?).map fun d =>
      if k < p.sprCount ∧ p.mask.getLsbD 4 = true then
        (if d.x.toNat = 0 then { d with lo := BitVec.ofNat 8 (2 * d.lo.toNat), hi := BitVec.ofNat 8 (2 * d.hi.toNat) }
        else { d with x := BitVec.ofNat 8 (d.x.toNat - 1) })
      else d) ∧
    (evaluates →
      q.spr = (evaluateSprites p).spr ∧ q.sprCount = (evaluateSprites p).sprCount ∧
      q.zeroPossible = (evaluateSprites p).zeroPossible ∧ q.status = (evaluateSprites p).status) ∧
    (loads → q.spr = (loadSpritePatterns s).ppu.spr) ∧
    (clears → q.spr = p.spr.map fun d => { d with lo := 0x00#8, hi := 0x00#8 }) ∧
    (¬ counts → ¬ evaluates → ¬ loads → ¬ clears → q.spr = p.spr) ∧
    (¬ evaluates → q.sprCount = p.sprCount ∧ q.zeroPossible = p.zeroPossible ∧
      q.status.getLsbD 5 = if clears then false else p.status.getLsbD 5)) ∧
    (q.oam = p.oam ∧ q.pal = p.pal ∧ q.nt0 = p.nt0 ∧ q.nt1 = p.nt1) ∧
    ppuClock s = (s.setPpu q).setMapper (ppuClock s).mapper

/-! Invariants. -/

/-- 10_state.md R19, R22, R26, R29, R30, 46_bus_dma_controller.md R249: every step, with whatever the host does before
it, keeps every memory and the frame in canonical form and in size, in the block and in the saved states. The contents
at power-on, which a step may install, are a premise, and no step changes them. The canonical form and the saved
states are the model's (log entries 1, 2 and 26). -/
def Obligations.StepKeepsMemories : Prop :=
  ∀ s t : State, contentsSound s.params.initial → s.everywhere Block.memoriesHold → step s = .next t →
    t.params = s.params ∧ t.everywhere Block.memoriesHold

/-- 10_state.md R14, R28, R30, 47 R273, 46 R236, R237, 49 R376, R379, 60 R424, R425: every step, with whatever the host
does before it, keeps the fixed bits of `P`, the PPU's ranges and reserved status bits, the mapper's variant and
ranges, the idle DMA record, and routes every request it raises. The same is kept of the states that the host has
saved (log entry 26). -/
def Obligations.StepKeepsRegisters : Prop :=
  ∀ s t : State, s.everywhere Block.registersHold → step s = .next t → t.everywhere Block.registersHold

/-- 70_reset_and_hazards.md R450 to R457: the state after reset satisfies both invariants and their premise, and it is
the power-on of its cartridge (the blank cartridge is the model's choice, log entry 3). -/
def Obligations.ResetSatisfiesInvariants : Prop :=
  contentsSound State.reset.params.initial ∧ State.reset.everywhere Block.memoriesHold ∧
  State.reset.everywhere Block.registersHold ∧ State.reset.running ∧
  powerOn Cartridge.blank State.reset = State.reset
end

