-- ==== Sys2Proof/Laws/Mem.lean ====
section
/-! SUPPORT. Memories: read after write, and the canonical form that every write keeps. -/

namespace Sys2Proof.Machine

/-! Cells. -/

theorem cellGet_cellPut_same (m : List Host.Cell) (a : Nat) (v : Byte) : cellGet (cellPut a v m) a = some v := by
  induction m with
  | nil => simp [cellPut, cellGet]
  | cons c m ih =>
    obtain ⟨k, w⟩ := c
    simp only [cellPut]
    split
    · simp [cellGet]
    · split
      · simp [cellGet]
      · rename_i h
        simp [cellGet, Ne.symm h, ih]

theorem cellGet_cellPut_other (m : List Host.Cell) {a b : Nat} (v : Byte) (h : b ≠ a) :
    cellGet (cellPut a v m) b = cellGet m b := by
  induction m with
  | nil => simp [cellPut, cellGet, Ne.symm h]
  | cons c m ih =>
    obtain ⟨k, w⟩ := c
    simp only [cellPut]
    split
    · simp [cellGet, Ne.symm h]
    · split
      · rename_i e
        simp [cellGet, Ne.symm h, ← e]
      · simp [cellGet, ih]

theorem cellGet_cellDrop_other (m : List Host.Cell) {a b : Nat} (h : b ≠ a) :
    cellGet (cellDrop a m) b = cellGet m b := by
  induction m with
  | nil => rfl
  | cons c m ih =>
    obtain ⟨k, w⟩ := c
    simp only [cellDrop]
    split
    · rename_i e
      simp [cellGet, e, Ne.symm h]
    · simp [cellGet, ih]

/-- Below a rising list there is no cell. -/
theorem cellGet_of_rise {m : List Host.Cell} {lo a : Nat} (h : cellsRise (some lo) m = true) (ha : a ≤ lo) :
    cellGet m a = none := by
  induction m generalizing lo with
  | nil => rfl
  | cons c m ih =>
    obtain ⟨k, w⟩ := c
    simp only [cellsRise, Option.all_some, Bool.and_eq_true, decide_eq_true_eq] at h
    simp [cellGet, show k ≠ a by omega, ih h.2 (by omega)]

theorem cellsRise_weaken {m : List Host.Cell} {lo : Option Nat} {k : Nat} (h : cellsRise (some k) m = true)
    (hk : lo.all (· ≤ k) = true) : cellsRise lo m = true := by
  cases m with
  | nil => simp [cellsRise]
  | cons c m =>
    cases lo with
    | none => simp_all [cellsRise]
    | some l =>
      simp only [cellsRise, Option.all_some, Bool.and_eq_true, decide_eq_true_eq] at *
      exact ⟨by omega, h.2⟩

theorem cellGet_cellDrop_same {m : List Host.Cell} {lo : Option Nat} (a : Nat) (h : cellsRise lo m = true) :
    cellGet (cellDrop a m) a = none := by
  induction m generalizing lo with
  | nil => rfl
  | cons c m ih =>
    obtain ⟨k, w⟩ := c
    simp only [cellsRise, Bool.and_eq_true] at h
    simp only [cellDrop]
    split
    · rename_i e
      exact cellGet_of_rise h.2 (Nat.le_of_eq e.symm)
    · rename_i e
      simp [cellGet, e, ih h.2]

theorem cellsRise_cellPut {m : List Host.Cell} {lo : Option Nat} {a : Nat} {v : Byte} (h : cellsRise lo m = true)
    (ha : lo.all (· < a) = true) : cellsRise lo (cellPut a v m) = true := by
  induction m generalizing lo with
  | nil => simp [cellPut, cellsRise, ha]
  | cons c m ih =>
    obtain ⟨k, w⟩ := c
    simp only [cellsRise, Bool.and_eq_true] at h
    simp only [cellPut]
    split
    · rename_i e
      simp [cellsRise, ha, h.2, e]
    · split
      · rename_i e
        subst e
        simp [cellsRise, ha, h.2]
      · simp only [cellsRise, h.1, Bool.true_and]
        exact ih h.2 (by simp; omega)

theorem cellsRise_cellDrop {m : List Host.Cell} {lo : Option Nat} (a : Nat) (h : cellsRise lo m = true) :
    cellsRise lo (cellDrop a m) = true := by
  induction m generalizing lo with
  | nil => rfl
  | cons c m ih =>
    obtain ⟨k, w⟩ := c
    simp only [cellsRise, Bool.and_eq_true] at h
    simp only [cellDrop]
    split
    · exact cellsRise_weaken h.2 (by cases lo <;> simp_all; omega)
    · simp [cellsRise, h.1, ih h.2]

theorem all_cellPut {m : List Host.Cell} {p : Host.Cell → Bool} {a : Nat} {v : Byte} (h : m.all p = true)
    (hp : p (a, v) = true) : (cellPut a v m).all p = true := by
  induction m with
  | nil => simp [cellPut, hp]
  | cons c m ih =>
    obtain ⟨k, w⟩ := c
    simp only [List.all_cons, Bool.and_eq_true] at h
    simp only [cellPut]
    split
    · simp [hp, h.1, h.2]
    · split
      · simp [hp, h.2]
      · simp [h.1, ih h.2]

theorem all_cellDrop {m : List Host.Cell} {p : Host.Cell → Bool} (a : Nat) (h : m.all p = true) :
    (cellDrop a m).all p = true := by
  induction m with
  | nil => rfl
  | cons c m ih =>
    obtain ⟨k, w⟩ := c
    simp only [List.all_cons, Bool.and_eq_true] at h
    simp only [cellDrop]
    split
    · exact h.2
    · simp [h.1, ih h.2]

/-! Memories. -/

theorem Memory.wf_iff (m : Memory) :
    m.wf = true ↔ cellsRise none m = true ∧ m.all (fun c => c.2 != Config.unlisted) = true := by
  simp only [Memory.wf, Bool.and_eq_true]

@[simp] theorem Memory.read_nil (a : Nat) : Memory.read [] a = Config.unlisted := rfl

/-- A read after a write to the same address gives the value written. -/
theorem Memory.read_write_same {m : Memory} (h : m.wf = true) (a : Nat) (v : Byte) : (m.write a v).read a = v := by
  unfold Memory.write Memory.read
  split
  · rename_i e
    rw [cellGet_cellDrop_same a ((Memory.wf_iff m).mp h).1, e]
    rfl
  · rw [cellGet_cellPut_same]
    rfl

/-- A write leaves every other address alone. -/
theorem Memory.read_write_other (m : Memory) {a b : Nat} (v : Byte) (h : b ≠ a) : (m.write a v).read b = m.read b := by
  unfold Memory.write Memory.read
  split
  · rw [cellGet_cellDrop_other m h]
  · rw [cellGet_cellPut_other m v h]

theorem Memory.read_write {m : Memory} (h : m.wf = true) (a b : Nat) (v : Byte) :
    (m.write a v).read b = if b = a then v else m.read b := by
  split
  · rename_i e
    rw [e, Memory.read_write_same h]
  · rename_i e
    exact Memory.read_write_other m v e

/-- A write keeps the canonical form. -/
theorem Memory.wf_write {m : Memory} (h : m.wf = true) (a : Nat) (v : Byte) : (m.write a v).wf = true := by
  rw [Memory.wf_iff] at *
  unfold Memory.write
  split
  · exact ⟨cellsRise_cellDrop a h.1, all_cellDrop a h.2⟩
  · rename_i e
    exact ⟨cellsRise_cellPut h.1 rfl, all_cellPut h.2 (by simpa using e)⟩

/-- A write inside the memory's bounds keeps them. -/
theorem Memory.below_write {m : Memory} {n a : Nat} (h : m.below n = true) (ha : a < n) (v : Byte) :
    (m.write a v).below n = true := by
  unfold Memory.write Memory.below at *
  split
  · exact all_cellDrop a h
  · exact all_cellPut h (by simpa using ha)

@[simp] theorem Memory.wf_nil : Memory.wf [] = true := rfl

@[simp] theorem Memory.below_nil (n : Nat) : Memory.below [] n = true := rfl

theorem cellGet_ne_unlisted {m : List Host.Cell} {a : Nat} {v : Byte}
    (h : m.all (fun c => c.2 != Config.unlisted) = true) (hg : cellGet m a = some v) : v ≠ Config.unlisted := by
  induction m with
  | nil => cases hg
  | cons c m ih =>
    obtain ⟨k, w⟩ := c
    simp only [List.all_cons, Bool.and_eq_true] at h
    simp only [cellGet] at hg
    split at hg
    · cases hg
      simpa using h.1
    · exact ih h.2 hg

/-- Equal memories are equal data: canonical memories that read alike are the same list. -/
theorem Memory.ext_of_read {m n : Memory} (hm : m.wf = true) (hn : n.wf = true) (h : ∀ a, m.read a = n.read a) :
    m = n := by
  rw [Memory.wf_iff] at hm hn
  have hget : ∀ a, cellGet m a = cellGet n a := by
    intro a
    have ha := h a
    unfold Memory.read at ha
    cases e : cellGet m a <;> cases e' : cellGet n a <;> rw [e, e'] at ha <;> simp only [Option.getD] at ha
    · exact absurd ha.symm (cellGet_ne_unlisted hn.2 e')
    · exact absurd ha (cellGet_ne_unlisted hm.2 e)
    · rw [ha]
  obtain ⟨hm, -⟩ := hm
  obtain ⟨hn, -⟩ := hn
  clear h
  have key : ∀ (lo : Option Nat) (m n : List Host.Cell), cellsRise lo m = true → cellsRise lo n = true →
      (∀ a, cellGet m a = cellGet n a) → m = n := by
    intro lo m
    induction m generalizing lo with
    | nil =>
      intro n _ _ hg
      cases n with
      | nil => rfl
      | cons d n => simpa [cellGet] using hg d.1
    | cons c m ih =>
      intro n h1 h2 hg
      obtain ⟨k, w⟩ := c
      cases n with
      | nil => simpa [cellGet] using hg k
      | cons d n =>
        obtain ⟨j, x⟩ := d
        simp only [cellsRise, Bool.and_eq_true] at h1 h2
        have hkj : k = j := by
          rcases Nat.lt_trichotomy k j with hlt | heq | hgt
          · have hk := hg k
            simp [cellGet, show j ≠ k by omega, cellGet_of_rise h2.2 (Nat.le_of_lt hlt)] at hk
          · exact heq
          · have hj := hg j
            simp [cellGet, show k ≠ j by omega, cellGet_of_rise h1.2 (Nat.le_of_lt hgt)] at hj
        subst hkj
        have hw := hg k
        simp only [cellGet, if_true] at hw
        cases hw
        congr 1
        refine ih (some k) n h1.2 h2.2 fun a => ?_
        have ha := hg a
        simp only [cellGet] at ha
        split at ha
        · rename_i e
          rw [cellGet_of_rise h1.2 (Nat.le_of_eq e.symm), cellGet_of_rise h2.2 (Nat.le_of_eq e.symm)]
        · exact ha
  exact key none m n hm hn hget

/-- What a memory built from bytes holds. -/
theorem Memory.ofBytes_rise (a : Nat) (bs : List Byte) (lo : Option Nat) (h : lo.all (· < a) = true) :
    cellsRise lo (Memory.ofBytes a bs) = true := by
  induction bs generalizing a lo with
  | nil => simp [Memory.ofBytes, cellsRise]
  | cons b bs ih =>
    simp only [Memory.ofBytes]
    split
    · exact ih (a + 1) lo (by cases lo <;> simp_all; omega)
    · simp [cellsRise, h, ih (a + 1) (some a) (by simp)]

theorem Memory.ofBytes_wf (a : Nat) (bs : List Byte) : (Memory.ofBytes a bs).wf = true := by
  rw [Memory.wf_iff]
  refine ⟨Memory.ofBytes_rise a bs none rfl, ?_⟩
  induction bs generalizing a with
  | nil => rfl
  | cons b bs ih =>
    simp only [Memory.ofBytes]
    split
    · exact ih (a + 1)
    · rename_i e
      simp [e, ih (a + 1)]

theorem Memory.ofBytes_below (a n : Nat) (bs : List Byte) (h : a + bs.length ≤ n) :
    (Memory.ofBytes a bs).below n = true := by
  induction bs generalizing a with
  | nil => rfl
  | cons b bs ih =>
    simp only [List.length_cons] at h
    have := ih (a + 1) (by omega)
    simp only [Memory.ofBytes]
    split
    · exact this
    · simp only [Memory.below, List.all_cons, Bool.and_eq_true, decide_eq_true_eq]
      exact ⟨by omega, this⟩

/-- The byte at each address of a memory built from bytes; it needs no canonical form. -/
theorem Memory.read_ofBytes (a : Nat) (bs : List Byte) (k : Nat) :
    (Memory.ofBytes a bs).read k = if a ≤ k then bs.getD (k - a) Config.unlisted else Config.unlisted := by
  induction bs generalizing a with
  | nil => simp [Memory.ofBytes]
  | cons b bs ih =>
    have hr : ∀ m : Memory, m.read k = (cellGet m k).getD Config.unlisted := fun _ => rfl
    rw [Memory.ofBytes]
    by_cases hk : k = a
    · subst hk
      split
      · rename_i e
        simp [ih, e]
      · simp [hr, cellGet]
    · have hne : a ≠ k := fun e => hk e.symm
      have hb : Memory.read ((a, b) :: Memory.ofBytes (a + 1) bs) k = (Memory.ofBytes (a + 1) bs).read k := by
        simp [hr, cellGet, hne]
      have hs : (if b = Config.unlisted then Memory.ofBytes (a + 1) bs else (a, b) :: Memory.ofBytes (a + 1) bs : Memory).read k
          = (Memory.ofBytes (a + 1) bs).read k := by
        split
        · rfl
        · exact hb
      rw [hs, ih]
      by_cases hle : a ≤ k
      · rw [if_pos hle, if_pos (by omega), show k - a = (k - (a + 1)) + 1 by omega, List.getD_cons_succ]
      · rw [if_neg hle, if_neg (by omega)]

end Sys2Proof.Machine
end

