-- ==== Sys2Proof/Laws/State.lean ====
section
/-! SUPPORT. One lemma per field per update of State and of the CPU record, each true by rfl. -/

namespace Sys2Proof.Machine

@[simp] theorem State.setCpu_cpu (s : State) (v : Cpu) : (s.setCpu v).cpu = v := rfl
@[simp] theorem State.setCpu_fatal (s : State) (v : Cpu) : (s.setCpu v).fatal = s.fatal := rfl
@[simp] theorem State.setCpu_ram (s : State) (v : Cpu) : (s.setCpu v).ram = s.ram := rfl
@[simp] theorem State.setCpu_clk (s : State) (v : Cpu) : (s.setCpu v).clk = s.clk := rfl
@[simp] theorem State.setCpu_dma (s : State) (v : Cpu) : (s.setCpu v).dma = s.dma := rfl
@[simp] theorem State.setCpu_ppu (s : State) (v : Cpu) : (s.setCpu v).ppu = s.ppu := rfl
@[simp] theorem State.setCpu_mapper (s : State) (v : Cpu) : (s.setCpu v).mapper = s.mapper := rfl
@[simp] theorem State.setCpu_mirror (s : State) (v : Cpu) : (s.setCpu v).mirror = s.mirror := rfl
@[simp] theorem State.setCpu_prgRam (s : State) (v : Cpu) : (s.setCpu v).prgRam = s.prgRam := rfl
@[simp] theorem State.setCpu_chrRam (s : State) (v : Cpu) : (s.setCpu v).chrRam = s.chrRam := rfl
@[simp] theorem State.setCpu_cart (s : State) (v : Cpu) : (s.setCpu v).cart = s.cart := rfl
@[simp] theorem State.setCpu_params (s : State) (v : Cpu) : (s.setCpu v).params = s.params := rfl
@[simp] theorem State.setCpu_pads (s : State) (v : Cpu) : (s.setCpu v).pads = s.pads := rfl
@[simp] theorem State.setCpu_apuDraws (s : State) (v : Cpu) : (s.setCpu v).apuDraws = s.apuDraws := rfl
@[simp] theorem State.setCpu_apuWrites (s : State) (v : Cpu) : (s.setCpu v).apuWrites = s.apuWrites := rfl
@[simp] theorem State.setCpu_saves (s : State) (v : Cpu) : (s.setCpu v).saves = s.saves := rfl
@[simp] theorem State.setCpu_hostQueue (s : State) (v : Cpu) : (s.setCpu v).hostQueue = s.hostQueue := rfl
@[simp] theorem State.setFatal_cpu (s : State) (v : Option Fatal) : (s.setFatal v).cpu = s.cpu := rfl
@[simp] theorem State.setFatal_fatal (s : State) (v : Option Fatal) : (s.setFatal v).fatal = v := rfl
@[simp] theorem State.setFatal_ram (s : State) (v : Option Fatal) : (s.setFatal v).ram = s.ram := rfl
@[simp] theorem State.setFatal_clk (s : State) (v : Option Fatal) : (s.setFatal v).clk = s.clk := rfl
@[simp] theorem State.setFatal_dma (s : State) (v : Option Fatal) : (s.setFatal v).dma = s.dma := rfl
@[simp] theorem State.setFatal_ppu (s : State) (v : Option Fatal) : (s.setFatal v).ppu = s.ppu := rfl
@[simp] theorem State.setFatal_mapper (s : State) (v : Option Fatal) : (s.setFatal v).mapper = s.mapper := rfl
@[simp] theorem State.setFatal_mirror (s : State) (v : Option Fatal) : (s.setFatal v).mirror = s.mirror := rfl
@[simp] theorem State.setFatal_prgRam (s : State) (v : Option Fatal) : (s.setFatal v).prgRam = s.prgRam := rfl
@[simp] theorem State.setFatal_chrRam (s : State) (v : Option Fatal) : (s.setFatal v).chrRam = s.chrRam := rfl
@[simp] theorem State.setFatal_cart (s : State) (v : Option Fatal) : (s.setFatal v).cart = s.cart := rfl
@[simp] theorem State.setFatal_params (s : State) (v : Option Fatal) : (s.setFatal v).params = s.params := rfl
@[simp] theorem State.setFatal_pads (s : State) (v : Option Fatal) : (s.setFatal v).pads = s.pads := rfl
@[simp] theorem State.setFatal_apuDraws (s : State) (v : Option Fatal) : (s.setFatal v).apuDraws = s.apuDraws := rfl
@[simp] theorem State.setFatal_apuWrites (s : State) (v : Option Fatal) : (s.setFatal v).apuWrites = s.apuWrites := rfl
@[simp] theorem State.setFatal_saves (s : State) (v : Option Fatal) : (s.setFatal v).saves = s.saves := rfl
@[simp] theorem State.setFatal_hostQueue (s : State) (v : Option Fatal) : (s.setFatal v).hostQueue = s.hostQueue := rfl
@[simp] theorem State.setRam_cpu (s : State) (v : Memory) : (s.setRam v).cpu = s.cpu := rfl
@[simp] theorem State.setRam_fatal (s : State) (v : Memory) : (s.setRam v).fatal = s.fatal := rfl
@[simp] theorem State.setRam_ram (s : State) (v : Memory) : (s.setRam v).ram = v := rfl
@[simp] theorem State.setRam_clk (s : State) (v : Memory) : (s.setRam v).clk = s.clk := rfl
@[simp] theorem State.setRam_dma (s : State) (v : Memory) : (s.setRam v).dma = s.dma := rfl
@[simp] theorem State.setRam_ppu (s : State) (v : Memory) : (s.setRam v).ppu = s.ppu := rfl
@[simp] theorem State.setRam_mapper (s : State) (v : Memory) : (s.setRam v).mapper = s.mapper := rfl
@[simp] theorem State.setRam_mirror (s : State) (v : Memory) : (s.setRam v).mirror = s.mirror := rfl
@[simp] theorem State.setRam_prgRam (s : State) (v : Memory) : (s.setRam v).prgRam = s.prgRam := rfl
@[simp] theorem State.setRam_chrRam (s : State) (v : Memory) : (s.setRam v).chrRam = s.chrRam := rfl
@[simp] theorem State.setRam_cart (s : State) (v : Memory) : (s.setRam v).cart = s.cart := rfl
@[simp] theorem State.setRam_params (s : State) (v : Memory) : (s.setRam v).params = s.params := rfl
@[simp] theorem State.setRam_pads (s : State) (v : Memory) : (s.setRam v).pads = s.pads := rfl
@[simp] theorem State.setRam_apuDraws (s : State) (v : Memory) : (s.setRam v).apuDraws = s.apuDraws := rfl
@[simp] theorem State.setRam_apuWrites (s : State) (v : Memory) : (s.setRam v).apuWrites = s.apuWrites := rfl
@[simp] theorem State.setRam_saves (s : State) (v : Memory) : (s.setRam v).saves = s.saves := rfl
@[simp] theorem State.setRam_hostQueue (s : State) (v : Memory) : (s.setRam v).hostQueue = s.hostQueue := rfl
@[simp] theorem State.setClk_cpu (s : State) (v : Nat) : (s.setClk v).cpu = s.cpu := rfl
@[simp] theorem State.setClk_fatal (s : State) (v : Nat) : (s.setClk v).fatal = s.fatal := rfl
@[simp] theorem State.setClk_ram (s : State) (v : Nat) : (s.setClk v).ram = s.ram := rfl
@[simp] theorem State.setClk_clk (s : State) (v : Nat) : (s.setClk v).clk = v := rfl
@[simp] theorem State.setClk_dma (s : State) (v : Nat) : (s.setClk v).dma = s.dma := rfl
@[simp] theorem State.setClk_ppu (s : State) (v : Nat) : (s.setClk v).ppu = s.ppu := rfl
@[simp] theorem State.setClk_mapper (s : State) (v : Nat) : (s.setClk v).mapper = s.mapper := rfl
@[simp] theorem State.setClk_mirror (s : State) (v : Nat) : (s.setClk v).mirror = s.mirror := rfl
@[simp] theorem State.setClk_prgRam (s : State) (v : Nat) : (s.setClk v).prgRam = s.prgRam := rfl
@[simp] theorem State.setClk_chrRam (s : State) (v : Nat) : (s.setClk v).chrRam = s.chrRam := rfl
@[simp] theorem State.setClk_cart (s : State) (v : Nat) : (s.setClk v).cart = s.cart := rfl
@[simp] theorem State.setClk_params (s : State) (v : Nat) : (s.setClk v).params = s.params := rfl
@[simp] theorem State.setClk_pads (s : State) (v : Nat) : (s.setClk v).pads = s.pads := rfl
@[simp] theorem State.setClk_apuDraws (s : State) (v : Nat) : (s.setClk v).apuDraws = s.apuDraws := rfl
@[simp] theorem State.setClk_apuWrites (s : State) (v : Nat) : (s.setClk v).apuWrites = s.apuWrites := rfl
@[simp] theorem State.setClk_saves (s : State) (v : Nat) : (s.setClk v).saves = s.saves := rfl
@[simp] theorem State.setClk_hostQueue (s : State) (v : Nat) : (s.setClk v).hostQueue = s.hostQueue := rfl
@[simp] theorem State.setDma_cpu (s : State) (v : Dma) : (s.setDma v).cpu = s.cpu := rfl
@[simp] theorem State.setDma_fatal (s : State) (v : Dma) : (s.setDma v).fatal = s.fatal := rfl
@[simp] theorem State.setDma_ram (s : State) (v : Dma) : (s.setDma v).ram = s.ram := rfl
@[simp] theorem State.setDma_clk (s : State) (v : Dma) : (s.setDma v).clk = s.clk := rfl
@[simp] theorem State.setDma_dma (s : State) (v : Dma) : (s.setDma v).dma = v := rfl
@[simp] theorem State.setDma_ppu (s : State) (v : Dma) : (s.setDma v).ppu = s.ppu := rfl
@[simp] theorem State.setDma_mapper (s : State) (v : Dma) : (s.setDma v).mapper = s.mapper := rfl
@[simp] theorem State.setDma_mirror (s : State) (v : Dma) : (s.setDma v).mirror = s.mirror := rfl
@[simp] theorem State.setDma_prgRam (s : State) (v : Dma) : (s.setDma v).prgRam = s.prgRam := rfl
@[simp] theorem State.setDma_chrRam (s : State) (v : Dma) : (s.setDma v).chrRam = s.chrRam := rfl
@[simp] theorem State.setDma_cart (s : State) (v : Dma) : (s.setDma v).cart = s.cart := rfl
@[simp] theorem State.setDma_params (s : State) (v : Dma) : (s.setDma v).params = s.params := rfl
@[simp] theorem State.setDma_pads (s : State) (v : Dma) : (s.setDma v).pads = s.pads := rfl
@[simp] theorem State.setDma_apuDraws (s : State) (v : Dma) : (s.setDma v).apuDraws = s.apuDraws := rfl
@[simp] theorem State.setDma_apuWrites (s : State) (v : Dma) : (s.setDma v).apuWrites = s.apuWrites := rfl
@[simp] theorem State.setDma_saves (s : State) (v : Dma) : (s.setDma v).saves = s.saves := rfl
@[simp] theorem State.setDma_hostQueue (s : State) (v : Dma) : (s.setDma v).hostQueue = s.hostQueue := rfl
@[simp] theorem State.setPpu_cpu (s : State) (v : Ppu) : (s.setPpu v).cpu = s.cpu := rfl
@[simp] theorem State.setPpu_fatal (s : State) (v : Ppu) : (s.setPpu v).fatal = s.fatal := rfl
@[simp] theorem State.setPpu_ram (s : State) (v : Ppu) : (s.setPpu v).ram = s.ram := rfl
@[simp] theorem State.setPpu_clk (s : State) (v : Ppu) : (s.setPpu v).clk = s.clk := rfl
@[simp] theorem State.setPpu_dma (s : State) (v : Ppu) : (s.setPpu v).dma = s.dma := rfl
@[simp] theorem State.setPpu_ppu (s : State) (v : Ppu) : (s.setPpu v).ppu = v := rfl
@[simp] theorem State.setPpu_mapper (s : State) (v : Ppu) : (s.setPpu v).mapper = s.mapper := rfl
@[simp] theorem State.setPpu_mirror (s : State) (v : Ppu) : (s.setPpu v).mirror = s.mirror := rfl
@[simp] theorem State.setPpu_prgRam (s : State) (v : Ppu) : (s.setPpu v).prgRam = s.prgRam := rfl
@[simp] theorem State.setPpu_chrRam (s : State) (v : Ppu) : (s.setPpu v).chrRam = s.chrRam := rfl
@[simp] theorem State.setPpu_cart (s : State) (v : Ppu) : (s.setPpu v).cart = s.cart := rfl
@[simp] theorem State.setPpu_params (s : State) (v : Ppu) : (s.setPpu v).params = s.params := rfl
@[simp] theorem State.setPpu_pads (s : State) (v : Ppu) : (s.setPpu v).pads = s.pads := rfl
@[simp] theorem State.setPpu_apuDraws (s : State) (v : Ppu) : (s.setPpu v).apuDraws = s.apuDraws := rfl
@[simp] theorem State.setPpu_apuWrites (s : State) (v : Ppu) : (s.setPpu v).apuWrites = s.apuWrites := rfl
@[simp] theorem State.setPpu_saves (s : State) (v : Ppu) : (s.setPpu v).saves = s.saves := rfl
@[simp] theorem State.setPpu_hostQueue (s : State) (v : Ppu) : (s.setPpu v).hostQueue = s.hostQueue := rfl
@[simp] theorem State.setMapper_cpu (s : State) (v : Mapper) : (s.setMapper v).cpu = s.cpu := rfl
@[simp] theorem State.setMapper_fatal (s : State) (v : Mapper) : (s.setMapper v).fatal = s.fatal := rfl
@[simp] theorem State.setMapper_ram (s : State) (v : Mapper) : (s.setMapper v).ram = s.ram := rfl
@[simp] theorem State.setMapper_clk (s : State) (v : Mapper) : (s.setMapper v).clk = s.clk := rfl
@[simp] theorem State.setMapper_dma (s : State) (v : Mapper) : (s.setMapper v).dma = s.dma := rfl
@[simp] theorem State.setMapper_ppu (s : State) (v : Mapper) : (s.setMapper v).ppu = s.ppu := rfl
@[simp] theorem State.setMapper_mapper (s : State) (v : Mapper) : (s.setMapper v).mapper = v := rfl
@[simp] theorem State.setMapper_mirror (s : State) (v : Mapper) : (s.setMapper v).mirror = s.mirror := rfl
@[simp] theorem State.setMapper_prgRam (s : State) (v : Mapper) : (s.setMapper v).prgRam = s.prgRam := rfl
@[simp] theorem State.setMapper_chrRam (s : State) (v : Mapper) : (s.setMapper v).chrRam = s.chrRam := rfl
@[simp] theorem State.setMapper_cart (s : State) (v : Mapper) : (s.setMapper v).cart = s.cart := rfl
@[simp] theorem State.setMapper_params (s : State) (v : Mapper) : (s.setMapper v).params = s.params := rfl
@[simp] theorem State.setMapper_pads (s : State) (v : Mapper) : (s.setMapper v).pads = s.pads := rfl
@[simp] theorem State.setMapper_apuDraws (s : State) (v : Mapper) : (s.setMapper v).apuDraws = s.apuDraws := rfl
@[simp] theorem State.setMapper_apuWrites (s : State) (v : Mapper) : (s.setMapper v).apuWrites = s.apuWrites := rfl
@[simp] theorem State.setMapper_saves (s : State) (v : Mapper) : (s.setMapper v).saves = s.saves := rfl
@[simp] theorem State.setMapper_hostQueue (s : State) (v : Mapper) : (s.setMapper v).hostQueue = s.hostQueue := rfl
@[simp] theorem State.setMirror_cpu (s : State) (v : Mirror) : (s.setMirror v).cpu = s.cpu := rfl
@[simp] theorem State.setMirror_fatal (s : State) (v : Mirror) : (s.setMirror v).fatal = s.fatal := rfl
@[simp] theorem State.setMirror_ram (s : State) (v : Mirror) : (s.setMirror v).ram = s.ram := rfl
@[simp] theorem State.setMirror_clk (s : State) (v : Mirror) : (s.setMirror v).clk = s.clk := rfl
@[simp] theorem State.setMirror_dma (s : State) (v : Mirror) : (s.setMirror v).dma = s.dma := rfl
@[simp] theorem State.setMirror_ppu (s : State) (v : Mirror) : (s.setMirror v).ppu = s.ppu := rfl
@[simp] theorem State.setMirror_mapper (s : State) (v : Mirror) : (s.setMirror v).mapper = s.mapper := rfl
@[simp] theorem State.setMirror_mirror (s : State) (v : Mirror) : (s.setMirror v).mirror = v := rfl
@[simp] theorem State.setMirror_prgRam (s : State) (v : Mirror) : (s.setMirror v).prgRam = s.prgRam := rfl
@[simp] theorem State.setMirror_chrRam (s : State) (v : Mirror) : (s.setMirror v).chrRam = s.chrRam := rfl
@[simp] theorem State.setMirror_cart (s : State) (v : Mirror) : (s.setMirror v).cart = s.cart := rfl
@[simp] theorem State.setMirror_params (s : State) (v : Mirror) : (s.setMirror v).params = s.params := rfl
@[simp] theorem State.setMirror_pads (s : State) (v : Mirror) : (s.setMirror v).pads = s.pads := rfl
@[simp] theorem State.setMirror_apuDraws (s : State) (v : Mirror) : (s.setMirror v).apuDraws = s.apuDraws := rfl
@[simp] theorem State.setMirror_apuWrites (s : State) (v : Mirror) : (s.setMirror v).apuWrites = s.apuWrites := rfl
@[simp] theorem State.setMirror_saves (s : State) (v : Mirror) : (s.setMirror v).saves = s.saves := rfl
@[simp] theorem State.setMirror_hostQueue (s : State) (v : Mirror) : (s.setMirror v).hostQueue = s.hostQueue := rfl
@[simp] theorem State.setPrgRam_cpu (s : State) (v : Memory) : (s.setPrgRam v).cpu = s.cpu := rfl
@[simp] theorem State.setPrgRam_fatal (s : State) (v : Memory) : (s.setPrgRam v).fatal = s.fatal := rfl
@[simp] theorem State.setPrgRam_ram (s : State) (v : Memory) : (s.setPrgRam v).ram = s.ram := rfl
@[simp] theorem State.setPrgRam_clk (s : State) (v : Memory) : (s.setPrgRam v).clk = s.clk := rfl
@[simp] theorem State.setPrgRam_dma (s : State) (v : Memory) : (s.setPrgRam v).dma = s.dma := rfl
@[simp] theorem State.setPrgRam_ppu (s : State) (v : Memory) : (s.setPrgRam v).ppu = s.ppu := rfl
@[simp] theorem State.setPrgRam_mapper (s : State) (v : Memory) : (s.setPrgRam v).mapper = s.mapper := rfl
@[simp] theorem State.setPrgRam_mirror (s : State) (v : Memory) : (s.setPrgRam v).mirror = s.mirror := rfl
@[simp] theorem State.setPrgRam_prgRam (s : State) (v : Memory) : (s.setPrgRam v).prgRam = v := rfl
@[simp] theorem State.setPrgRam_chrRam (s : State) (v : Memory) : (s.setPrgRam v).chrRam = s.chrRam := rfl
@[simp] theorem State.setPrgRam_cart (s : State) (v : Memory) : (s.setPrgRam v).cart = s.cart := rfl
@[simp] theorem State.setPrgRam_params (s : State) (v : Memory) : (s.setPrgRam v).params = s.params := rfl
@[simp] theorem State.setPrgRam_pads (s : State) (v : Memory) : (s.setPrgRam v).pads = s.pads := rfl
@[simp] theorem State.setPrgRam_apuDraws (s : State) (v : Memory) : (s.setPrgRam v).apuDraws = s.apuDraws := rfl
@[simp] theorem State.setPrgRam_apuWrites (s : State) (v : Memory) : (s.setPrgRam v).apuWrites = s.apuWrites := rfl
@[simp] theorem State.setPrgRam_saves (s : State) (v : Memory) : (s.setPrgRam v).saves = s.saves := rfl
@[simp] theorem State.setPrgRam_hostQueue (s : State) (v : Memory) : (s.setPrgRam v).hostQueue = s.hostQueue := rfl
@[simp] theorem State.setChrRam_cpu (s : State) (v : Memory) : (s.setChrRam v).cpu = s.cpu := rfl
@[simp] theorem State.setChrRam_fatal (s : State) (v : Memory) : (s.setChrRam v).fatal = s.fatal := rfl
@[simp] theorem State.setChrRam_ram (s : State) (v : Memory) : (s.setChrRam v).ram = s.ram := rfl
@[simp] theorem State.setChrRam_clk (s : State) (v : Memory) : (s.setChrRam v).clk = s.clk := rfl
@[simp] theorem State.setChrRam_dma (s : State) (v : Memory) : (s.setChrRam v).dma = s.dma := rfl
@[simp] theorem State.setChrRam_ppu (s : State) (v : Memory) : (s.setChrRam v).ppu = s.ppu := rfl
@[simp] theorem State.setChrRam_mapper (s : State) (v : Memory) : (s.setChrRam v).mapper = s.mapper := rfl
@[simp] theorem State.setChrRam_mirror (s : State) (v : Memory) : (s.setChrRam v).mirror = s.mirror := rfl
@[simp] theorem State.setChrRam_prgRam (s : State) (v : Memory) : (s.setChrRam v).prgRam = s.prgRam := rfl
@[simp] theorem State.setChrRam_chrRam (s : State) (v : Memory) : (s.setChrRam v).chrRam = v := rfl
@[simp] theorem State.setChrRam_cart (s : State) (v : Memory) : (s.setChrRam v).cart = s.cart := rfl
@[simp] theorem State.setChrRam_params (s : State) (v : Memory) : (s.setChrRam v).params = s.params := rfl
@[simp] theorem State.setChrRam_pads (s : State) (v : Memory) : (s.setChrRam v).pads = s.pads := rfl
@[simp] theorem State.setChrRam_apuDraws (s : State) (v : Memory) : (s.setChrRam v).apuDraws = s.apuDraws := rfl
@[simp] theorem State.setChrRam_apuWrites (s : State) (v : Memory) : (s.setChrRam v).apuWrites = s.apuWrites := rfl
@[simp] theorem State.setChrRam_saves (s : State) (v : Memory) : (s.setChrRam v).saves = s.saves := rfl
@[simp] theorem State.setChrRam_hostQueue (s : State) (v : Memory) : (s.setChrRam v).hostQueue = s.hostQueue := rfl
@[simp] theorem State.setCart_cpu (s : State) (v : Cartridge) : (s.setCart v).cpu = s.cpu := rfl
@[simp] theorem State.setCart_fatal (s : State) (v : Cartridge) : (s.setCart v).fatal = s.fatal := rfl
@[simp] theorem State.setCart_ram (s : State) (v : Cartridge) : (s.setCart v).ram = s.ram := rfl
@[simp] theorem State.setCart_clk (s : State) (v : Cartridge) : (s.setCart v).clk = s.clk := rfl
@[simp] theorem State.setCart_dma (s : State) (v : Cartridge) : (s.setCart v).dma = s.dma := rfl
@[simp] theorem State.setCart_ppu (s : State) (v : Cartridge) : (s.setCart v).ppu = s.ppu := rfl
@[simp] theorem State.setCart_mapper (s : State) (v : Cartridge) : (s.setCart v).mapper = s.mapper := rfl
@[simp] theorem State.setCart_mirror (s : State) (v : Cartridge) : (s.setCart v).mirror = s.mirror := rfl
@[simp] theorem State.setCart_prgRam (s : State) (v : Cartridge) : (s.setCart v).prgRam = s.prgRam := rfl
@[simp] theorem State.setCart_chrRam (s : State) (v : Cartridge) : (s.setCart v).chrRam = s.chrRam := rfl
@[simp] theorem State.setCart_cart (s : State) (v : Cartridge) : (s.setCart v).cart = v := rfl
@[simp] theorem State.setCart_params (s : State) (v : Cartridge) : (s.setCart v).params = s.params := rfl
@[simp] theorem State.setCart_pads (s : State) (v : Cartridge) : (s.setCart v).pads = s.pads := rfl
@[simp] theorem State.setCart_apuDraws (s : State) (v : Cartridge) : (s.setCart v).apuDraws = s.apuDraws := rfl
@[simp] theorem State.setCart_apuWrites (s : State) (v : Cartridge) : (s.setCart v).apuWrites = s.apuWrites := rfl
@[simp] theorem State.setCart_saves (s : State) (v : Cartridge) : (s.setCart v).saves = s.saves := rfl
@[simp] theorem State.setCart_hostQueue (s : State) (v : Cartridge) : (s.setCart v).hostQueue = s.hostQueue := rfl
@[simp] theorem State.setParams_cpu (s : State) (v : Params) : (s.setParams v).cpu = s.cpu := rfl
@[simp] theorem State.setParams_fatal (s : State) (v : Params) : (s.setParams v).fatal = s.fatal := rfl
@[simp] theorem State.setParams_ram (s : State) (v : Params) : (s.setParams v).ram = s.ram := rfl
@[simp] theorem State.setParams_clk (s : State) (v : Params) : (s.setParams v).clk = s.clk := rfl
@[simp] theorem State.setParams_dma (s : State) (v : Params) : (s.setParams v).dma = s.dma := rfl
@[simp] theorem State.setParams_ppu (s : State) (v : Params) : (s.setParams v).ppu = s.ppu := rfl
@[simp] theorem State.setParams_mapper (s : State) (v : Params) : (s.setParams v).mapper = s.mapper := rfl
@[simp] theorem State.setParams_mirror (s : State) (v : Params) : (s.setParams v).mirror = s.mirror := rfl
@[simp] theorem State.setParams_prgRam (s : State) (v : Params) : (s.setParams v).prgRam = s.prgRam := rfl
@[simp] theorem State.setParams_chrRam (s : State) (v : Params) : (s.setParams v).chrRam = s.chrRam := rfl
@[simp] theorem State.setParams_cart (s : State) (v : Params) : (s.setParams v).cart = s.cart := rfl
@[simp] theorem State.setParams_params (s : State) (v : Params) : (s.setParams v).params = v := rfl
@[simp] theorem State.setParams_pads (s : State) (v : Params) : (s.setParams v).pads = s.pads := rfl
@[simp] theorem State.setParams_apuDraws (s : State) (v : Params) : (s.setParams v).apuDraws = s.apuDraws := rfl
@[simp] theorem State.setParams_apuWrites (s : State) (v : Params) : (s.setParams v).apuWrites = s.apuWrites := rfl
@[simp] theorem State.setParams_saves (s : State) (v : Params) : (s.setParams v).saves = s.saves := rfl
@[simp] theorem State.setParams_hostQueue (s : State) (v : Params) : (s.setParams v).hostQueue = s.hostQueue := rfl
@[simp] theorem State.setPads_cpu (s : State) (v : Pads) : (s.setPads v).cpu = s.cpu := rfl
@[simp] theorem State.setPads_fatal (s : State) (v : Pads) : (s.setPads v).fatal = s.fatal := rfl
@[simp] theorem State.setPads_ram (s : State) (v : Pads) : (s.setPads v).ram = s.ram := rfl
@[simp] theorem State.setPads_clk (s : State) (v : Pads) : (s.setPads v).clk = s.clk := rfl
@[simp] theorem State.setPads_dma (s : State) (v : Pads) : (s.setPads v).dma = s.dma := rfl
@[simp] theorem State.setPads_ppu (s : State) (v : Pads) : (s.setPads v).ppu = s.ppu := rfl
@[simp] theorem State.setPads_mapper (s : State) (v : Pads) : (s.setPads v).mapper = s.mapper := rfl
@[simp] theorem State.setPads_mirror (s : State) (v : Pads) : (s.setPads v).mirror = s.mirror := rfl
@[simp] theorem State.setPads_prgRam (s : State) (v : Pads) : (s.setPads v).prgRam = s.prgRam := rfl
@[simp] theorem State.setPads_chrRam (s : State) (v : Pads) : (s.setPads v).chrRam = s.chrRam := rfl
@[simp] theorem State.setPads_cart (s : State) (v : Pads) : (s.setPads v).cart = s.cart := rfl
@[simp] theorem State.setPads_params (s : State) (v : Pads) : (s.setPads v).params = s.params := rfl
@[simp] theorem State.setPads_pads (s : State) (v : Pads) : (s.setPads v).pads = v := rfl
@[simp] theorem State.setPads_apuDraws (s : State) (v : Pads) : (s.setPads v).apuDraws = s.apuDraws := rfl
@[simp] theorem State.setPads_apuWrites (s : State) (v : Pads) : (s.setPads v).apuWrites = s.apuWrites := rfl
@[simp] theorem State.setPads_saves (s : State) (v : Pads) : (s.setPads v).saves = s.saves := rfl
@[simp] theorem State.setPads_hostQueue (s : State) (v : Pads) : (s.setPads v).hostQueue = s.hostQueue := rfl
@[simp] theorem State.setApuDraws_cpu (s : State) (v : Nat) : (s.setApuDraws v).cpu = s.cpu := rfl
@[simp] theorem State.setApuDraws_fatal (s : State) (v : Nat) : (s.setApuDraws v).fatal = s.fatal := rfl
@[simp] theorem State.setApuDraws_ram (s : State) (v : Nat) : (s.setApuDraws v).ram = s.ram := rfl
@[simp] theorem State.setApuDraws_clk (s : State) (v : Nat) : (s.setApuDraws v).clk = s.clk := rfl
@[simp] theorem State.setApuDraws_dma (s : State) (v : Nat) : (s.setApuDraws v).dma = s.dma := rfl
@[simp] theorem State.setApuDraws_ppu (s : State) (v : Nat) : (s.setApuDraws v).ppu = s.ppu := rfl
@[simp] theorem State.setApuDraws_mapper (s : State) (v : Nat) : (s.setApuDraws v).mapper = s.mapper := rfl
@[simp] theorem State.setApuDraws_mirror (s : State) (v : Nat) : (s.setApuDraws v).mirror = s.mirror := rfl
@[simp] theorem State.setApuDraws_prgRam (s : State) (v : Nat) : (s.setApuDraws v).prgRam = s.prgRam := rfl
@[simp] theorem State.setApuDraws_chrRam (s : State) (v : Nat) : (s.setApuDraws v).chrRam = s.chrRam := rfl
@[simp] theorem State.setApuDraws_cart (s : State) (v : Nat) : (s.setApuDraws v).cart = s.cart := rfl
@[simp] theorem State.setApuDraws_params (s : State) (v : Nat) : (s.setApuDraws v).params = s.params := rfl
@[simp] theorem State.setApuDraws_pads (s : State) (v : Nat) : (s.setApuDraws v).pads = s.pads := rfl
@[simp] theorem State.setApuDraws_apuDraws (s : State) (v : Nat) : (s.setApuDraws v).apuDraws = v := rfl
@[simp] theorem State.setApuDraws_apuWrites (s : State) (v : Nat) : (s.setApuDraws v).apuWrites = s.apuWrites := rfl
@[simp] theorem State.setApuDraws_saves (s : State) (v : Nat) : (s.setApuDraws v).saves = s.saves := rfl
@[simp] theorem State.setApuDraws_hostQueue (s : State) (v : Nat) : (s.setApuDraws v).hostQueue = s.hostQueue := rfl
@[simp] theorem State.setApuWrites_cpu (s : State) (v : List (Word × Byte)) : (s.setApuWrites v).cpu = s.cpu := rfl
@[simp] theorem State.setApuWrites_fatal (s : State) (v : List (Word × Byte)) : (s.setApuWrites v).fatal = s.fatal := rfl
@[simp] theorem State.setApuWrites_ram (s : State) (v : List (Word × Byte)) : (s.setApuWrites v).ram = s.ram := rfl
@[simp] theorem State.setApuWrites_clk (s : State) (v : List (Word × Byte)) : (s.setApuWrites v).clk = s.clk := rfl
@[simp] theorem State.setApuWrites_dma (s : State) (v : List (Word × Byte)) : (s.setApuWrites v).dma = s.dma := rfl
@[simp] theorem State.setApuWrites_ppu (s : State) (v : List (Word × Byte)) : (s.setApuWrites v).ppu = s.ppu := rfl
@[simp] theorem State.setApuWrites_mapper (s : State) (v : List (Word × Byte)) : (s.setApuWrites v).mapper = s.mapper := rfl
@[simp] theorem State.setApuWrites_mirror (s : State) (v : List (Word × Byte)) : (s.setApuWrites v).mirror = s.mirror := rfl
@[simp] theorem State.setApuWrites_prgRam (s : State) (v : List (Word × Byte)) : (s.setApuWrites v).prgRam = s.prgRam := rfl
@[simp] theorem State.setApuWrites_chrRam (s : State) (v : List (Word × Byte)) : (s.setApuWrites v).chrRam = s.chrRam := rfl
@[simp] theorem State.setApuWrites_cart (s : State) (v : List (Word × Byte)) : (s.setApuWrites v).cart = s.cart := rfl
@[simp] theorem State.setApuWrites_params (s : State) (v : List (Word × Byte)) : (s.setApuWrites v).params = s.params := rfl
@[simp] theorem State.setApuWrites_pads (s : State) (v : List (Word × Byte)) : (s.setApuWrites v).pads = s.pads := rfl
@[simp] theorem State.setApuWrites_apuDraws (s : State) (v : List (Word × Byte)) : (s.setApuWrites v).apuDraws = s.apuDraws := rfl
@[simp] theorem State.setApuWrites_apuWrites (s : State) (v : List (Word × Byte)) : (s.setApuWrites v).apuWrites = v := rfl
@[simp] theorem State.setApuWrites_saves (s : State) (v : List (Word × Byte)) : (s.setApuWrites v).saves = s.saves := rfl
@[simp] theorem State.setApuWrites_hostQueue (s : State) (v : List (Word × Byte)) : (s.setApuWrites v).hostQueue = s.hostQueue := rfl
@[simp] theorem State.setSaves_cpu (s : State) (v : List Block) : (s.setSaves v).cpu = s.cpu := rfl
@[simp] theorem State.setSaves_fatal (s : State) (v : List Block) : (s.setSaves v).fatal = s.fatal := rfl
@[simp] theorem State.setSaves_ram (s : State) (v : List Block) : (s.setSaves v).ram = s.ram := rfl
@[simp] theorem State.setSaves_clk (s : State) (v : List Block) : (s.setSaves v).clk = s.clk := rfl
@[simp] theorem State.setSaves_dma (s : State) (v : List Block) : (s.setSaves v).dma = s.dma := rfl
@[simp] theorem State.setSaves_ppu (s : State) (v : List Block) : (s.setSaves v).ppu = s.ppu := rfl
@[simp] theorem State.setSaves_mapper (s : State) (v : List Block) : (s.setSaves v).mapper = s.mapper := rfl
@[simp] theorem State.setSaves_mirror (s : State) (v : List Block) : (s.setSaves v).mirror = s.mirror := rfl
@[simp] theorem State.setSaves_prgRam (s : State) (v : List Block) : (s.setSaves v).prgRam = s.prgRam := rfl
@[simp] theorem State.setSaves_chrRam (s : State) (v : List Block) : (s.setSaves v).chrRam = s.chrRam := rfl
@[simp] theorem State.setSaves_cart (s : State) (v : List Block) : (s.setSaves v).cart = s.cart := rfl
@[simp] theorem State.setSaves_params (s : State) (v : List Block) : (s.setSaves v).params = s.params := rfl
@[simp] theorem State.setSaves_pads (s : State) (v : List Block) : (s.setSaves v).pads = s.pads := rfl
@[simp] theorem State.setSaves_apuDraws (s : State) (v : List Block) : (s.setSaves v).apuDraws = s.apuDraws := rfl
@[simp] theorem State.setSaves_apuWrites (s : State) (v : List Block) : (s.setSaves v).apuWrites = s.apuWrites := rfl
@[simp] theorem State.setSaves_saves (s : State) (v : List Block) : (s.setSaves v).saves = v := rfl
@[simp] theorem State.setSaves_hostQueue (s : State) (v : List Block) : (s.setSaves v).hostQueue = s.hostQueue := rfl
@[simp] theorem State.setHostQueue_cpu (s : State) (v : List (List HostMove)) : (s.setHostQueue v).cpu = s.cpu := rfl
@[simp] theorem State.setHostQueue_fatal (s : State) (v : List (List HostMove)) : (s.setHostQueue v).fatal = s.fatal := rfl
@[simp] theorem State.setHostQueue_ram (s : State) (v : List (List HostMove)) : (s.setHostQueue v).ram = s.ram := rfl
@[simp] theorem State.setHostQueue_clk (s : State) (v : List (List HostMove)) : (s.setHostQueue v).clk = s.clk := rfl
@[simp] theorem State.setHostQueue_dma (s : State) (v : List (List HostMove)) : (s.setHostQueue v).dma = s.dma := rfl
@[simp] theorem State.setHostQueue_ppu (s : State) (v : List (List HostMove)) : (s.setHostQueue v).ppu = s.ppu := rfl
@[simp] theorem State.setHostQueue_mapper (s : State) (v : List (List HostMove)) : (s.setHostQueue v).mapper = s.mapper := rfl
@[simp] theorem State.setHostQueue_mirror (s : State) (v : List (List HostMove)) : (s.setHostQueue v).mirror = s.mirror := rfl
@[simp] theorem State.setHostQueue_prgRam (s : State) (v : List (List HostMove)) : (s.setHostQueue v).prgRam = s.prgRam := rfl
@[simp] theorem State.setHostQueue_chrRam (s : State) (v : List (List HostMove)) : (s.setHostQueue v).chrRam = s.chrRam := rfl
@[simp] theorem State.setHostQueue_cart (s : State) (v : List (List HostMove)) : (s.setHostQueue v).cart = s.cart := rfl
@[simp] theorem State.setHostQueue_params (s : State) (v : List (List HostMove)) : (s.setHostQueue v).params = s.params := rfl
@[simp] theorem State.setHostQueue_pads (s : State) (v : List (List HostMove)) : (s.setHostQueue v).pads = s.pads := rfl
@[simp] theorem State.setHostQueue_apuDraws (s : State) (v : List (List HostMove)) : (s.setHostQueue v).apuDraws = s.apuDraws := rfl
@[simp] theorem State.setHostQueue_apuWrites (s : State) (v : List (List HostMove)) : (s.setHostQueue v).apuWrites = s.apuWrites := rfl
@[simp] theorem State.setHostQueue_saves (s : State) (v : List (List HostMove)) : (s.setHostQueue v).saves = s.saves := rfl
@[simp] theorem State.setHostQueue_hostQueue (s : State) (v : List (List HostMove)) : (s.setHostQueue v).hostQueue = v := rfl

@[simp] theorem State.setBlock_toBlock (s : State) (b : Block) : (s.setBlock b).toBlock = b := rfl
@[simp] theorem State.setBlock_params (s : State) (b : Block) : (s.setBlock b).params = s.params := rfl
@[simp] theorem State.setBlock_apuDraws (s : State) (b : Block) : (s.setBlock b).apuDraws = s.apuDraws := rfl
@[simp] theorem State.setBlock_apuWrites (s : State) (b : Block) : (s.setBlock b).apuWrites = s.apuWrites := rfl
@[simp] theorem State.setBlock_saves (s : State) (b : Block) : (s.setBlock b).saves = s.saves := rfl
@[simp] theorem State.setBlock_hostQueue (s : State) (b : Block) : (s.setBlock b).hostQueue = s.hostQueue := rfl
@[simp] theorem State.setParams_toBlock (s : State) (v : Params) : (s.setParams v).toBlock = s.toBlock := rfl
@[simp] theorem State.setApuDraws_toBlock (s : State) (v : Nat) : (s.setApuDraws v).toBlock = s.toBlock := rfl
@[simp] theorem State.setApuWrites_toBlock (s : State) (v : List (Word × Byte)) : (s.setApuWrites v).toBlock = s.toBlock := rfl
@[simp] theorem State.setSaves_toBlock (s : State) (v : List Block) : (s.setSaves v).toBlock = s.toBlock := rfl
@[simp] theorem State.setHostQueue_toBlock (s : State) (v : List (List HostMove)) : (s.setHostQueue v).toBlock = s.toBlock := rfl

@[simp] theorem Cpu.setA_a (c : Cpu) (v : Byte) : (c.setA v).a = v := rfl
@[simp] theorem Cpu.setA_x (c : Cpu) (v : Byte) : (c.setA v).x = c.x := rfl
@[simp] theorem Cpu.setA_y (c : Cpu) (v : Byte) : (c.setA v).y = c.y := rfl
@[simp] theorem Cpu.setA_sp (c : Cpu) (v : Byte) : (c.setA v).sp = c.sp := rfl
@[simp] theorem Cpu.setA_p (c : Cpu) (v : Byte) : (c.setA v).p = c.p := rfl
@[simp] theorem Cpu.setA_pc (c : Cpu) (v : Byte) : (c.setA v).pc = c.pc := rfl
@[simp] theorem Cpu.setA_cycles (c : Cpu) (v : Byte) : (c.setA v).cycles = c.cycles := rfl
@[simp] theorem Cpu.setA_opcode (c : Cpu) (v : Byte) : (c.setA v).opcode = c.opcode := rfl
@[simp] theorem Cpu.setA_addrAbs (c : Cpu) (v : Byte) : (c.setA v).addrAbs = c.addrAbs := rfl
@[simp] theorem Cpu.setA_addrRel (c : Cpu) (v : Byte) : (c.setA v).addrRel = c.addrRel := rfl
@[simp] theorem Cpu.setX_a (c : Cpu) (v : Byte) : (c.setX v).a = c.a := rfl
@[simp] theorem Cpu.setX_x (c : Cpu) (v : Byte) : (c.setX v).x = v := rfl
@[simp] theorem Cpu.setX_y (c : Cpu) (v : Byte) : (c.setX v).y = c.y := rfl
@[simp] theorem Cpu.setX_sp (c : Cpu) (v : Byte) : (c.setX v).sp = c.sp := rfl
@[simp] theorem Cpu.setX_p (c : Cpu) (v : Byte) : (c.setX v).p = c.p := rfl
@[simp] theorem Cpu.setX_pc (c : Cpu) (v : Byte) : (c.setX v).pc = c.pc := rfl
@[simp] theorem Cpu.setX_cycles (c : Cpu) (v : Byte) : (c.setX v).cycles = c.cycles := rfl
@[simp] theorem Cpu.setX_opcode (c : Cpu) (v : Byte) : (c.setX v).opcode = c.opcode := rfl
@[simp] theorem Cpu.setX_addrAbs (c : Cpu) (v : Byte) : (c.setX v).addrAbs = c.addrAbs := rfl
@[simp] theorem Cpu.setX_addrRel (c : Cpu) (v : Byte) : (c.setX v).addrRel = c.addrRel := rfl
@[simp] theorem Cpu.setY_a (c : Cpu) (v : Byte) : (c.setY v).a = c.a := rfl
@[simp] theorem Cpu.setY_x (c : Cpu) (v : Byte) : (c.setY v).x = c.x := rfl
@[simp] theorem Cpu.setY_y (c : Cpu) (v : Byte) : (c.setY v).y = v := rfl
@[simp] theorem Cpu.setY_sp (c : Cpu) (v : Byte) : (c.setY v).sp = c.sp := rfl
@[simp] theorem Cpu.setY_p (c : Cpu) (v : Byte) : (c.setY v).p = c.p := rfl
@[simp] theorem Cpu.setY_pc (c : Cpu) (v : Byte) : (c.setY v).pc = c.pc := rfl
@[simp] theorem Cpu.setY_cycles (c : Cpu) (v : Byte) : (c.setY v).cycles = c.cycles := rfl
@[simp] theorem Cpu.setY_opcode (c : Cpu) (v : Byte) : (c.setY v).opcode = c.opcode := rfl
@[simp] theorem Cpu.setY_addrAbs (c : Cpu) (v : Byte) : (c.setY v).addrAbs = c.addrAbs := rfl
@[simp] theorem Cpu.setY_addrRel (c : Cpu) (v : Byte) : (c.setY v).addrRel = c.addrRel := rfl
@[simp] theorem Cpu.setSp_a (c : Cpu) (v : Byte) : (c.setSp v).a = c.a := rfl
@[simp] theorem Cpu.setSp_x (c : Cpu) (v : Byte) : (c.setSp v).x = c.x := rfl
@[simp] theorem Cpu.setSp_y (c : Cpu) (v : Byte) : (c.setSp v).y = c.y := rfl
@[simp] theorem Cpu.setSp_sp (c : Cpu) (v : Byte) : (c.setSp v).sp = v := rfl
@[simp] theorem Cpu.setSp_p (c : Cpu) (v : Byte) : (c.setSp v).p = c.p := rfl
@[simp] theorem Cpu.setSp_pc (c : Cpu) (v : Byte) : (c.setSp v).pc = c.pc := rfl
@[simp] theorem Cpu.setSp_cycles (c : Cpu) (v : Byte) : (c.setSp v).cycles = c.cycles := rfl
@[simp] theorem Cpu.setSp_opcode (c : Cpu) (v : Byte) : (c.setSp v).opcode = c.opcode := rfl
@[simp] theorem Cpu.setSp_addrAbs (c : Cpu) (v : Byte) : (c.setSp v).addrAbs = c.addrAbs := rfl
@[simp] theorem Cpu.setSp_addrRel (c : Cpu) (v : Byte) : (c.setSp v).addrRel = c.addrRel := rfl
@[simp] theorem Cpu.setP_a (c : Cpu) (v : Byte) : (c.setP v).a = c.a := rfl
@[simp] theorem Cpu.setP_x (c : Cpu) (v : Byte) : (c.setP v).x = c.x := rfl
@[simp] theorem Cpu.setP_y (c : Cpu) (v : Byte) : (c.setP v).y = c.y := rfl
@[simp] theorem Cpu.setP_sp (c : Cpu) (v : Byte) : (c.setP v).sp = c.sp := rfl
@[simp] theorem Cpu.setP_p (c : Cpu) (v : Byte) : (c.setP v).p = v := rfl
@[simp] theorem Cpu.setP_pc (c : Cpu) (v : Byte) : (c.setP v).pc = c.pc := rfl
@[simp] theorem Cpu.setP_cycles (c : Cpu) (v : Byte) : (c.setP v).cycles = c.cycles := rfl
@[simp] theorem Cpu.setP_opcode (c : Cpu) (v : Byte) : (c.setP v).opcode = c.opcode := rfl
@[simp] theorem Cpu.setP_addrAbs (c : Cpu) (v : Byte) : (c.setP v).addrAbs = c.addrAbs := rfl
@[simp] theorem Cpu.setP_addrRel (c : Cpu) (v : Byte) : (c.setP v).addrRel = c.addrRel := rfl
@[simp] theorem Cpu.setPc_a (c : Cpu) (v : Word) : (c.setPc v).a = c.a := rfl
@[simp] theorem Cpu.setPc_x (c : Cpu) (v : Word) : (c.setPc v).x = c.x := rfl
@[simp] theorem Cpu.setPc_y (c : Cpu) (v : Word) : (c.setPc v).y = c.y := rfl
@[simp] theorem Cpu.setPc_sp (c : Cpu) (v : Word) : (c.setPc v).sp = c.sp := rfl
@[simp] theorem Cpu.setPc_p (c : Cpu) (v : Word) : (c.setPc v).p = c.p := rfl
@[simp] theorem Cpu.setPc_pc (c : Cpu) (v : Word) : (c.setPc v).pc = v := rfl
@[simp] theorem Cpu.setPc_cycles (c : Cpu) (v : Word) : (c.setPc v).cycles = c.cycles := rfl
@[simp] theorem Cpu.setPc_opcode (c : Cpu) (v : Word) : (c.setPc v).opcode = c.opcode := rfl
@[simp] theorem Cpu.setPc_addrAbs (c : Cpu) (v : Word) : (c.setPc v).addrAbs = c.addrAbs := rfl
@[simp] theorem Cpu.setPc_addrRel (c : Cpu) (v : Word) : (c.setPc v).addrRel = c.addrRel := rfl
@[simp] theorem Cpu.setCycles_a (c : Cpu) (v : Nat) : (c.setCycles v).a = c.a := rfl
@[simp] theorem Cpu.setCycles_x (c : Cpu) (v : Nat) : (c.setCycles v).x = c.x := rfl
@[simp] theorem Cpu.setCycles_y (c : Cpu) (v : Nat) : (c.setCycles v).y = c.y := rfl
@[simp] theorem Cpu.setCycles_sp (c : Cpu) (v : Nat) : (c.setCycles v).sp = c.sp := rfl
@[simp] theorem Cpu.setCycles_p (c : Cpu) (v : Nat) : (c.setCycles v).p = c.p := rfl
@[simp] theorem Cpu.setCycles_pc (c : Cpu) (v : Nat) : (c.setCycles v).pc = c.pc := rfl
@[simp] theorem Cpu.setCycles_cycles (c : Cpu) (v : Nat) : (c.setCycles v).cycles = v := rfl
@[simp] theorem Cpu.setCycles_opcode (c : Cpu) (v : Nat) : (c.setCycles v).opcode = c.opcode := rfl
@[simp] theorem Cpu.setCycles_addrAbs (c : Cpu) (v : Nat) : (c.setCycles v).addrAbs = c.addrAbs := rfl
@[simp] theorem Cpu.setCycles_addrRel (c : Cpu) (v : Nat) : (c.setCycles v).addrRel = c.addrRel := rfl
@[simp] theorem Cpu.setOpcode_a (c : Cpu) (v : Byte) : (c.setOpcode v).a = c.a := rfl
@[simp] theorem Cpu.setOpcode_x (c : Cpu) (v : Byte) : (c.setOpcode v).x = c.x := rfl
@[simp] theorem Cpu.setOpcode_y (c : Cpu) (v : Byte) : (c.setOpcode v).y = c.y := rfl
@[simp] theorem Cpu.setOpcode_sp (c : Cpu) (v : Byte) : (c.setOpcode v).sp = c.sp := rfl
@[simp] theorem Cpu.setOpcode_p (c : Cpu) (v : Byte) : (c.setOpcode v).p = c.p := rfl
@[simp] theorem Cpu.setOpcode_pc (c : Cpu) (v : Byte) : (c.setOpcode v).pc = c.pc := rfl
@[simp] theorem Cpu.setOpcode_cycles (c : Cpu) (v : Byte) : (c.setOpcode v).cycles = c.cycles := rfl
@[simp] theorem Cpu.setOpcode_opcode (c : Cpu) (v : Byte) : (c.setOpcode v).opcode = v := rfl
@[simp] theorem Cpu.setOpcode_addrAbs (c : Cpu) (v : Byte) : (c.setOpcode v).addrAbs = c.addrAbs := rfl
@[simp] theorem Cpu.setOpcode_addrRel (c : Cpu) (v : Byte) : (c.setOpcode v).addrRel = c.addrRel := rfl
@[simp] theorem Cpu.setAddrAbs_a (c : Cpu) (v : Word) : (c.setAddrAbs v).a = c.a := rfl
@[simp] theorem Cpu.setAddrAbs_x (c : Cpu) (v : Word) : (c.setAddrAbs v).x = c.x := rfl
@[simp] theorem Cpu.setAddrAbs_y (c : Cpu) (v : Word) : (c.setAddrAbs v).y = c.y := rfl
@[simp] theorem Cpu.setAddrAbs_sp (c : Cpu) (v : Word) : (c.setAddrAbs v).sp = c.sp := rfl
@[simp] theorem Cpu.setAddrAbs_p (c : Cpu) (v : Word) : (c.setAddrAbs v).p = c.p := rfl
@[simp] theorem Cpu.setAddrAbs_pc (c : Cpu) (v : Word) : (c.setAddrAbs v).pc = c.pc := rfl
@[simp] theorem Cpu.setAddrAbs_cycles (c : Cpu) (v : Word) : (c.setAddrAbs v).cycles = c.cycles := rfl
@[simp] theorem Cpu.setAddrAbs_opcode (c : Cpu) (v : Word) : (c.setAddrAbs v).opcode = c.opcode := rfl
@[simp] theorem Cpu.setAddrAbs_addrAbs (c : Cpu) (v : Word) : (c.setAddrAbs v).addrAbs = v := rfl
@[simp] theorem Cpu.setAddrAbs_addrRel (c : Cpu) (v : Word) : (c.setAddrAbs v).addrRel = c.addrRel := rfl
@[simp] theorem Cpu.setAddrRel_a (c : Cpu) (v : Word) : (c.setAddrRel v).a = c.a := rfl
@[simp] theorem Cpu.setAddrRel_x (c : Cpu) (v : Word) : (c.setAddrRel v).x = c.x := rfl
@[simp] theorem Cpu.setAddrRel_y (c : Cpu) (v : Word) : (c.setAddrRel v).y = c.y := rfl
@[simp] theorem Cpu.setAddrRel_sp (c : Cpu) (v : Word) : (c.setAddrRel v).sp = c.sp := rfl
@[simp] theorem Cpu.setAddrRel_p (c : Cpu) (v : Word) : (c.setAddrRel v).p = c.p := rfl
@[simp] theorem Cpu.setAddrRel_pc (c : Cpu) (v : Word) : (c.setAddrRel v).pc = c.pc := rfl
@[simp] theorem Cpu.setAddrRel_cycles (c : Cpu) (v : Word) : (c.setAddrRel v).cycles = c.cycles := rfl
@[simp] theorem Cpu.setAddrRel_opcode (c : Cpu) (v : Word) : (c.setAddrRel v).opcode = c.opcode := rfl
@[simp] theorem Cpu.setAddrRel_addrAbs (c : Cpu) (v : Word) : (c.setAddrRel v).addrAbs = c.addrAbs := rfl
@[simp] theorem Cpu.setAddrRel_addrRel (c : Cpu) (v : Word) : (c.setAddrRel v).addrRel = v := rfl

@[simp] theorem State.setCpu_setCpu (s : State) (v w : Cpu) : (s.setCpu v).setCpu w = s.setCpu w := rfl

end Sys2Proof.Machine
end

