-- ==== Sys2Proof/Laws/Ops.lean ====
section
/-! SUPPORT. What the Bus read and write, the stack and exception operations can change. -/

namespace Sys2Proof.Machine

/-! `memRead` (20_memory.md R51, R62): a read changes at most PPU port registers, the controllers and the APU's count. -/

theorem portRead_frame (s : State) (k : Nat) : (portRead s k).2 = s.setPpu (portRead s k).2.ppu := by
  unfold portRead dataRead
  split <;> rfl

/-- Everything a Bus read can change. -/
theorem memRead_frame (a : Word) (s : State) :
    (memRead a s).2 = ((s.setPpu (memRead a s).2.ppu).setPads (memRead a s).2.pads).setApuDraws (memRead a s).2.apuDraws := by
  unfold memRead
  dsimp only
  repeat' split
  all_goals first | rfl | (rw [portRead_frame]; rfl)

@[simp] theorem memRead_cpu (a : Word) (s : State) : (memRead a s).2.cpu = s.cpu := by rw [memRead_frame]; rfl
@[simp] theorem memRead_fatal (a : Word) (s : State) : (memRead a s).2.fatal = s.fatal := by rw [memRead_frame]; rfl
@[simp] theorem memRead_ram (a : Word) (s : State) : (memRead a s).2.ram = s.ram := by rw [memRead_frame]; rfl
@[simp] theorem memRead_clk (a : Word) (s : State) : (memRead a s).2.clk = s.clk := by rw [memRead_frame]; rfl
@[simp] theorem memRead_dma (a : Word) (s : State) : (memRead a s).2.dma = s.dma := by rw [memRead_frame]; rfl
@[simp] theorem memRead_mapper (a : Word) (s : State) : (memRead a s).2.mapper = s.mapper := by rw [memRead_frame]; rfl
@[simp] theorem memRead_mirror (a : Word) (s : State) : (memRead a s).2.mirror = s.mirror := by rw [memRead_frame]; rfl
@[simp] theorem memRead_prgRam (a : Word) (s : State) : (memRead a s).2.prgRam = s.prgRam := by rw [memRead_frame]; rfl
@[simp] theorem memRead_chrRam (a : Word) (s : State) : (memRead a s).2.chrRam = s.chrRam := by rw [memRead_frame]; rfl
@[simp] theorem memRead_cart (a : Word) (s : State) : (memRead a s).2.cart = s.cart := by rw [memRead_frame]; rfl
@[simp] theorem memRead_params (a : Word) (s : State) : (memRead a s).2.params = s.params := by rw [memRead_frame]; rfl
@[simp] theorem memRead_apuWrites (a : Word) (s : State) : (memRead a s).2.apuWrites = s.apuWrites := by rw [memRead_frame]; rfl
@[simp] theorem memRead_saves (a : Word) (s : State) : (memRead a s).2.saves = s.saves := by rw [memRead_frame]; rfl
@[simp] theorem memRead_hostQueue (a : Word) (s : State) : (memRead a s).2.hostQueue = s.hostQueue := by rw [memRead_frame]; rfl

/-- A port read changes in the PPU at most the vertical-blank flag, the write toggle, `vram` and `data_buffer`
(47_ppu_registers_memory.md R283 to R286). -/
theorem portRead_ppu (s : State) (k : Nat) :
    (portRead s k).2.ppu = s.ppu ∨
    (portRead s k).2.ppu = { s.ppu with status := putBit s.ppu.status vblankBit false, latch := false } ∨
    ∃ b v, (portRead s k).2.ppu = { s.ppu with dataBuffer := b, vram := v } := by
  unfold portRead
  split
  · exact .inr (.inl rfl)
  · exact .inl rfl
  · exact .inr (.inr ⟨_, _, rfl⟩)
  · exact .inl rfl

theorem memRead_ppu (a : Word) (s : State) :
    (memRead a s).2.ppu = s.ppu ∨
    (memRead a s).2.ppu = { s.ppu with status := putBit s.ppu.status vblankBit false, latch := false } ∨
    ∃ b v, (memRead a s).2.ppu = { s.ppu with dataBuffer := b, vram := v } := by
  unfold memRead
  dsimp only
  repeat' split
  all_goals first | exact .inl rfl | exact portRead_ppu s _

@[simp] theorem memRead_ppu_nt0 (a : Word) (s : State) : (memRead a s).2.ppu.nt0 = s.ppu.nt0 := by
  rcases memRead_ppu a s with h | h | ⟨b, v, h⟩ <;> rw [h]
@[simp] theorem memRead_ppu_nt1 (a : Word) (s : State) : (memRead a s).2.ppu.nt1 = s.ppu.nt1 := by
  rcases memRead_ppu a s with h | h | ⟨b, v, h⟩ <;> rw [h]
@[simp] theorem memRead_ppu_pal (a : Word) (s : State) : (memRead a s).2.ppu.pal = s.ppu.pal := by
  rcases memRead_ppu a s with h | h | ⟨b, v, h⟩ <;> rw [h]
@[simp] theorem memRead_ppu_oam (a : Word) (s : State) : (memRead a s).2.ppu.oam = s.ppu.oam := by
  rcases memRead_ppu a s with h | h | ⟨b, v, h⟩ <;> rw [h]
@[simp] theorem memRead_ppu_mask (a : Word) (s : State) : (memRead a s).2.ppu.mask = s.ppu.mask := by
  rcases memRead_ppu a s with h | h | ⟨b, v, h⟩ <;> rw [h]
@[simp] theorem memRead_ppu_control (a : Word) (s : State) : (memRead a s).2.ppu.control = s.ppu.control := by
  rcases memRead_ppu a s with h | h | ⟨b, v, h⟩ <;> rw [h]
@[simp] theorem memRead_ppu_tram (a : Word) (s : State) : (memRead a s).2.ppu.tram = s.ppu.tram := by
  rcases memRead_ppu a s with h | h | ⟨b, v, h⟩ <;> rw [h]
@[simp] theorem memRead_ppu_fineX (a : Word) (s : State) : (memRead a s).2.ppu.fineX = s.ppu.fineX := by
  rcases memRead_ppu a s with h | h | ⟨b, v, h⟩ <;> rw [h]
@[simp] theorem memRead_ppu_oamAddr (a : Word) (s : State) : (memRead a s).2.ppu.oamAddr = s.ppu.oamAddr := by
  rcases memRead_ppu a s with h | h | ⟨b, v, h⟩ <;> rw [h]
@[simp] theorem memRead_ppu_bgId (a : Word) (s : State) : (memRead a s).2.ppu.bgId = s.ppu.bgId := by
  rcases memRead_ppu a s with h | h | ⟨b, v, h⟩ <;> rw [h]
@[simp] theorem memRead_ppu_bgAttrib (a : Word) (s : State) : (memRead a s).2.ppu.bgAttrib = s.ppu.bgAttrib := by
  rcases memRead_ppu a s with h | h | ⟨b, v, h⟩ <;> rw [h]
@[simp] theorem memRead_ppu_bgLsb (a : Word) (s : State) : (memRead a s).2.ppu.bgLsb = s.ppu.bgLsb := by
  rcases memRead_ppu a s with h | h | ⟨b, v, h⟩ <;> rw [h]
@[simp] theorem memRead_ppu_bgMsb (a : Word) (s : State) : (memRead a s).2.ppu.bgMsb = s.ppu.bgMsb := by
  rcases memRead_ppu a s with h | h | ⟨b, v, h⟩ <;> rw [h]
@[simp] theorem memRead_ppu_shPatLo (a : Word) (s : State) : (memRead a s).2.ppu.shPatLo = s.ppu.shPatLo := by
  rcases memRead_ppu a s with h | h | ⟨b, v, h⟩ <;> rw [h]
@[simp] theorem memRead_ppu_shPatHi (a : Word) (s : State) : (memRead a s).2.ppu.shPatHi = s.ppu.shPatHi := by
  rcases memRead_ppu a s with h | h | ⟨b, v, h⟩ <;> rw [h]
@[simp] theorem memRead_ppu_shAttLo (a : Word) (s : State) : (memRead a s).2.ppu.shAttLo = s.ppu.shAttLo := by
  rcases memRead_ppu a s with h | h | ⟨b, v, h⟩ <;> rw [h]
@[simp] theorem memRead_ppu_shAttHi (a : Word) (s : State) : (memRead a s).2.ppu.shAttHi = s.ppu.shAttHi := by
  rcases memRead_ppu a s with h | h | ⟨b, v, h⟩ <;> rw [h]
@[simp] theorem memRead_ppu_spr (a : Word) (s : State) : (memRead a s).2.ppu.spr = s.ppu.spr := by
  rcases memRead_ppu a s with h | h | ⟨b, v, h⟩ <;> rw [h]
@[simp] theorem memRead_ppu_sprCount (a : Word) (s : State) : (memRead a s).2.ppu.sprCount = s.ppu.sprCount := by
  rcases memRead_ppu a s with h | h | ⟨b, v, h⟩ <;> rw [h]
@[simp] theorem memRead_ppu_zeroPossible (a : Word) (s : State) : (memRead a s).2.ppu.zeroPossible = s.ppu.zeroPossible := by
  rcases memRead_ppu a s with h | h | ⟨b, v, h⟩ <;> rw [h]
@[simp] theorem memRead_ppu_zeroRendered (a : Word) (s : State) : (memRead a s).2.ppu.zeroRendered = s.ppu.zeroRendered := by
  rcases memRead_ppu a s with h | h | ⟨b, v, h⟩ <;> rw [h]
@[simp] theorem memRead_ppu_scanline (a : Word) (s : State) : (memRead a s).2.ppu.scanline = s.ppu.scanline := by
  rcases memRead_ppu a s with h | h | ⟨b, v, h⟩ <;> rw [h]
@[simp] theorem memRead_ppu_cycle (a : Word) (s : State) : (memRead a s).2.ppu.cycle = s.ppu.cycle := by
  rcases memRead_ppu a s with h | h | ⟨b, v, h⟩ <;> rw [h]
@[simp] theorem memRead_ppu_oddFrame (a : Word) (s : State) : (memRead a s).2.ppu.oddFrame = s.ppu.oddFrame := by
  rcases memRead_ppu a s with h | h | ⟨b, v, h⟩ <;> rw [h]
@[simp] theorem memRead_ppu_frameComplete (a : Word) (s : State) : (memRead a s).2.ppu.frameComplete = s.ppu.frameComplete := by
  rcases memRead_ppu a s with h | h | ⟨b, v, h⟩ <;> rw [h]
@[simp] theorem memRead_ppu_nmi (a : Word) (s : State) : (memRead a s).2.ppu.nmi = s.ppu.nmi := by
  rcases memRead_ppu a s with h | h | ⟨b, v, h⟩ <;> rw [h]
@[simp] theorem memRead_ppu_frame (a : Word) (s : State) : (memRead a s).2.ppu.frame = s.ppu.frame := by
  rcases memRead_ppu a s with h | h | ⟨b, v, h⟩ <;> rw [h]

/-- Is the address one whose read has no side effect and whose byte is memory: RAM, add-on RAM, program image? -/
def isMemory (a : Word) : Prop := a.toNat < 0x2000 ∨ 0x6000 ≤ a.toNat

/-- R53: a RAM read. -/
theorem memRead_lowRam (a : Word) (s : State) (h : a.toNat < 0x2000) : memRead a s = (s.ram.read (a.toNat % 0x800), s) := by
  unfold memRead
  simp only [h, if_true]

/-- R56: a cartridge read. -/
theorem memRead_cartridge (a : Word) (s : State) (h : 0x6000 ≤ a.toNat) : memRead a s = (cartRead s a.toNat, s) := by
  unfold memRead
  dsimp only
  rw [if_neg (by omega), if_neg (by omega), if_neg (by omega), if_neg (by omega), if_neg (by omega), if_neg (by omega)]

/-- Reading memory changes nothing. -/
theorem memRead_memory (a : Word) (s : State) (h : isMemory a) : (memRead a s).2 = s := by
  rcases h with h | h
  · rw [memRead_lowRam a s h]
  · rw [memRead_cartridge a s h]

/-! Handing a byte to the sound unit (R246). -/

@[simp] theorem apuWrite_apuWrites (a : Word) (v : Byte) (s : State) : (apuWrite a v s).apuWrites = (a, v) :: s.apuWrites := rfl
@[simp] theorem apuWrite_toBlock (a : Word) (v : Byte) (s : State) : (apuWrite a v s).toBlock = s.toBlock := rfl
@[simp] theorem apuWrite_params (a : Word) (v : Byte) (s : State) : (apuWrite a v s).params = s.params := rfl
@[simp] theorem apuWrite_apuDraws (a : Word) (v : Byte) (s : State) : (apuWrite a v s).apuDraws = s.apuDraws := rfl
@[simp] theorem apuWrite_saves (a : Word) (v : Byte) (s : State) : (apuWrite a v s).saves = s.saves := rfl
@[simp] theorem apuWrite_hostQueue (a : Word) (v : Byte) (s : State) : (apuWrite a v s).hostQueue = s.hostQueue := rfl

/-! `memWrite` (R52): a write never changes the CPU, the clock, the cartridge or the parameters. -/

@[simp] theorem regWrite_cpu (s : State) (a : Nat) (d : Byte) : (regWrite s a d).cpu = s.cpu := by
  unfold regWrite; split <;> rfl
@[simp] theorem regWrite_fatal (s : State) (a : Nat) (d : Byte) : (regWrite s a d).fatal = s.fatal := by
  unfold regWrite; split <;> rfl
@[simp] theorem regWrite_clk (s : State) (a : Nat) (d : Byte) : (regWrite s a d).clk = s.clk := by
  unfold regWrite; split <;> rfl
@[simp] theorem regWrite_cart (s : State) (a : Nat) (d : Byte) : (regWrite s a d).cart = s.cart := by
  unfold regWrite; split <;> rfl
@[simp] theorem regWrite_params (s : State) (a : Nat) (d : Byte) : (regWrite s a d).params = s.params := by
  unfold regWrite; split <;> rfl
@[simp] theorem regWrite_apuDraws (s : State) (a : Nat) (d : Byte) : (regWrite s a d).apuDraws = s.apuDraws := by
  unfold regWrite; split <;> rfl
@[simp] theorem regWrite_apuWrites (s : State) (a : Nat) (d : Byte) : (regWrite s a d).apuWrites = s.apuWrites := by
  unfold regWrite; split <;> rfl
@[simp] theorem regWrite_saves (s : State) (a : Nat) (d : Byte) : (regWrite s a d).saves = s.saves := by
  unfold regWrite; split <;> rfl
@[simp] theorem regWrite_hostQueue (s : State) (a : Nat) (d : Byte) : (regWrite s a d).hostQueue = s.hostQueue := by
  unfold regWrite; split <;> rfl
@[simp] theorem cartWrite_cpu (s : State) (a : Nat) (d : Byte) : (cartWrite s a d).cpu = s.cpu := by
  unfold cartWrite; split <;> simp
@[simp] theorem cartWrite_fatal (s : State) (a : Nat) (d : Byte) : (cartWrite s a d).fatal = s.fatal := by
  unfold cartWrite; split <;> simp
@[simp] theorem cartWrite_clk (s : State) (a : Nat) (d : Byte) : (cartWrite s a d).clk = s.clk := by
  unfold cartWrite; split <;> simp
@[simp] theorem cartWrite_cart (s : State) (a : Nat) (d : Byte) : (cartWrite s a d).cart = s.cart := by
  unfold cartWrite; split <;> simp
@[simp] theorem cartWrite_params (s : State) (a : Nat) (d : Byte) : (cartWrite s a d).params = s.params := by
  unfold cartWrite; split <;> simp
@[simp] theorem cartWrite_apuDraws (s : State) (a : Nat) (d : Byte) : (cartWrite s a d).apuDraws = s.apuDraws := by
  unfold cartWrite; split <;> simp
@[simp] theorem cartWrite_apuWrites (s : State) (a : Nat) (d : Byte) : (cartWrite s a d).apuWrites = s.apuWrites := by
  unfold cartWrite; split <;> simp
@[simp] theorem cartWrite_saves (s : State) (a : Nat) (d : Byte) : (cartWrite s a d).saves = s.saves := by
  unfold cartWrite; split <;> simp
@[simp] theorem cartWrite_hostQueue (s : State) (a : Nat) (d : Byte) : (cartWrite s a d).hostQueue = s.hostQueue := by
  unfold cartWrite; split <;> simp
@[simp] theorem ppuWrite_cpu (s : State) (a : Nat) (d : Byte) : (ppuWrite s a d).cpu = s.cpu := by
  unfold ppuWrite cartPpuWrite; dsimp only; repeat' split
  all_goals rfl
@[simp] theorem ppuWrite_fatal (s : State) (a : Nat) (d : Byte) : (ppuWrite s a d).fatal = s.fatal := by
  unfold ppuWrite cartPpuWrite; dsimp only; repeat' split
  all_goals rfl
@[simp] theorem ppuWrite_clk (s : State) (a : Nat) (d : Byte) : (ppuWrite s a d).clk = s.clk := by
  unfold ppuWrite cartPpuWrite; dsimp only; repeat' split
  all_goals rfl
@[simp] theorem ppuWrite_cart (s : State) (a : Nat) (d : Byte) : (ppuWrite s a d).cart = s.cart := by
  unfold ppuWrite cartPpuWrite; dsimp only; repeat' split
  all_goals rfl
@[simp] theorem ppuWrite_params (s : State) (a : Nat) (d : Byte) : (ppuWrite s a d).params = s.params := by
  unfold ppuWrite cartPpuWrite; dsimp only; repeat' split
  all_goals rfl
@[simp] theorem ppuWrite_apuDraws (s : State) (a : Nat) (d : Byte) : (ppuWrite s a d).apuDraws = s.apuDraws := by
  unfold ppuWrite cartPpuWrite; dsimp only; repeat' split
  all_goals rfl
@[simp] theorem ppuWrite_apuWrites (s : State) (a : Nat) (d : Byte) : (ppuWrite s a d).apuWrites = s.apuWrites := by
  unfold ppuWrite cartPpuWrite; dsimp only; repeat' split
  all_goals rfl
@[simp] theorem ppuWrite_saves (s : State) (a : Nat) (d : Byte) : (ppuWrite s a d).saves = s.saves := by
  unfold ppuWrite cartPpuWrite; dsimp only; repeat' split
  all_goals rfl
@[simp] theorem ppuWrite_hostQueue (s : State) (a : Nat) (d : Byte) : (ppuWrite s a d).hostQueue = s.hostQueue := by
  unfold ppuWrite cartPpuWrite; dsimp only; repeat' split
  all_goals rfl
@[simp] theorem portWrite_cpu (s : State) (k : Nat) (d : Byte) : (portWrite s k d).cpu = s.cpu := by
  unfold portWrite dataWrite; split <;> simp
@[simp] theorem portWrite_fatal (s : State) (k : Nat) (d : Byte) : (portWrite s k d).fatal = s.fatal := by
  unfold portWrite dataWrite; split <;> simp
@[simp] theorem portWrite_clk (s : State) (k : Nat) (d : Byte) : (portWrite s k d).clk = s.clk := by
  unfold portWrite dataWrite; split <;> simp
@[simp] theorem portWrite_cart (s : State) (k : Nat) (d : Byte) : (portWrite s k d).cart = s.cart := by
  unfold portWrite dataWrite; split <;> simp
@[simp] theorem portWrite_params (s : State) (k : Nat) (d : Byte) : (portWrite s k d).params = s.params := by
  unfold portWrite dataWrite; split <;> simp
@[simp] theorem portWrite_apuDraws (s : State) (k : Nat) (d : Byte) : (portWrite s k d).apuDraws = s.apuDraws := by
  unfold portWrite dataWrite; split <;> simp
@[simp] theorem portWrite_apuWrites (s : State) (k : Nat) (d : Byte) : (portWrite s k d).apuWrites = s.apuWrites := by
  unfold portWrite dataWrite; split <;> simp
@[simp] theorem portWrite_saves (s : State) (k : Nat) (d : Byte) : (portWrite s k d).saves = s.saves := by
  unfold portWrite dataWrite; split <;> simp
@[simp] theorem portWrite_hostQueue (s : State) (k : Nat) (d : Byte) : (portWrite s k d).hostQueue = s.hostQueue := by
  unfold portWrite dataWrite; split <;> simp
@[simp] theorem memWrite_cpu (a : Word) (v : Byte) (s : State) : (memWrite a v s).cpu = s.cpu := by
  unfold memWrite; dsimp only; repeat' split
  all_goals simp
@[simp] theorem memWrite_fatal (a : Word) (v : Byte) (s : State) : (memWrite a v s).fatal = s.fatal := by
  unfold memWrite; dsimp only; repeat' split
  all_goals simp
@[simp] theorem memWrite_clk (a : Word) (v : Byte) (s : State) : (memWrite a v s).clk = s.clk := by
  unfold memWrite; dsimp only; repeat' split
  all_goals simp
@[simp] theorem memWrite_cart (a : Word) (v : Byte) (s : State) : (memWrite a v s).cart = s.cart := by
  unfold memWrite; dsimp only; repeat' split
  all_goals simp
@[simp] theorem memWrite_params (a : Word) (v : Byte) (s : State) : (memWrite a v s).params = s.params := by
  unfold memWrite; dsimp only; repeat' split
  all_goals simp
@[simp] theorem memWrite_apuDraws (a : Word) (v : Byte) (s : State) : (memWrite a v s).apuDraws = s.apuDraws := by
  unfold memWrite; dsimp only; repeat' split
  all_goals simp
@[simp] theorem memWrite_saves (a : Word) (v : Byte) (s : State) : (memWrite a v s).saves = s.saves := by
  unfold memWrite; dsimp only; repeat' split
  all_goals simp
@[simp] theorem memWrite_hostQueue (a : Word) (v : Byte) (s : State) : (memWrite a v s).hostQueue = s.hostQueue := by
  unfold memWrite; dsimp only; repeat' split
  all_goals simp

/-- R53: a RAM write. -/
theorem memWrite_lowRam (a : Word) (v : Byte) (s : State) (h : a.toNat < 0x2000) :
    memWrite a v s = s.setRam (s.ram.write (a.toNat % 0x800) v) := by
  unfold memWrite
  simp only [h, if_true]

/-- R54: a PPU port write. -/
theorem memWrite_port (a : Word) (v : Byte) (s : State) (h : 0x2000 ≤ a.toNat) (h' : a.toNat < 0x4000) :
    memWrite a v s = portWrite s (a.toNat % 8) v := by
  unfold memWrite
  dsimp only
  rw [if_neg (by omega), if_pos h']

/-- R56: a cartridge write. -/
theorem memWrite_cartridge (a : Word) (v : Byte) (s : State) (h : 0x6000 ≤ a.toNat) :
    memWrite a v s = cartWrite s a.toNat v := by
  unfold memWrite
  dsimp only
  rw [if_neg (by omega), if_neg (by omega), if_neg (by omega), if_neg (by omega), if_neg (by omega), if_neg (by omega)]

/-- R246: an APU register write hands over its address and byte and does nothing else. -/
theorem memWrite_apu (a : Word) (v : Byte) (s : State) (h : 0x4000 ≤ a.toNat) (h' : a.toNat < 0x4018)
    (h4 : a.toNat ≠ 0x4014) (h6 : a.toNat ≠ 0x4016) : memWrite a v s = apuWrite a v s := by
  unfold memWrite
  dsimp only
  rw [if_neg (by omega), if_neg (by omega), if_neg h4, if_neg h6, if_pos h']

/-- R246: what a Bus write hands to the sound unit. -/
theorem memWrite_apuWrites (a : Word) (v : Byte) (s : State) :
    (memWrite a v s).apuWrites =
      if 0x4000 ≤ a.toNat ∧ a.toNat < 0x4018 ∧ a.toNat ≠ 0x4014 ∧ a.toNat ≠ 0x4016 then (a, v) :: s.apuWrites
      else s.apuWrites := by
  split
  · rename_i h
    rw [memWrite_apu a v s h.1 h.2.1 h.2.2.1 h.2.2.2]
    rfl
  · unfold memWrite
    dsimp only
    repeat' split
    all_goals first | omega | simp

/-! The Bus never looks at the CPU record. -/

theorem portRead_setCpu (s : State) (k : Nat) (c : Cpu) :
    portRead (s.setCpu c) k = ((portRead s k).1, (portRead s k).2.setCpu c) := by
  unfold portRead
  split <;> rfl

theorem memRead_setCpu (a : Word) (s : State) (c : Cpu) :
    memRead a (s.setCpu c) = ((memRead a s).1, (memRead a s).2.setCpu c) := by
  unfold memRead
  dsimp only
  repeat' split
  all_goals first | rfl | exact portRead_setCpu s _ c

theorem regWrite_setCpu (s : State) (a : Nat) (d : Byte) (c : Cpu) :
    regWrite (s.setCpu c) a d = (regWrite s a d).setCpu c := by
  unfold regWrite
  cases h : s.mapper <;> simp only [State.setCpu_mapper, h] <;> rfl

theorem ppuWrite_setCpu (s : State) (a : Nat) (d : Byte) (c : Cpu) :
    ppuWrite (s.setCpu c) a d = (ppuWrite s a d).setCpu c := by
  unfold ppuWrite cartPpuWrite
  dsimp only
  repeat' split
  all_goals first | rfl | contradiction

theorem portWrite_setCpu (s : State) (k : Nat) (d : Byte) (c : Cpu) :
    portWrite (s.setCpu c) k d = (portWrite s k d).setCpu c := by
  unfold portWrite dataWrite
  split <;> first | rfl | (dsimp only; rw [State.setCpu_ppu, ppuWrite_setCpu]; rfl)

theorem memWrite_setCpu (a : Word) (v : Byte) (s : State) (c : Cpu) :
    memWrite a v (s.setCpu c) = (memWrite a v s).setCpu c := by
  unfold memWrite cartWrite
  dsimp only
  repeat' split
  all_goals first | rfl | exact portWrite_setCpu s _ v c | exact regWrite_setCpu s _ v c

/-! Sequencing (60_exceptions.md R423). -/

theorem andThen_running {s : State} (h : s.fatal = none) (f : State → State) : andThen s f = f s := by
  unfold andThen
  rw [h]

theorem andThen_stopped {s : State} {x : Fatal} (h : s.fatal = some x) (f : State → State) : andThen s f = s := by
  unfold andThen
  rw [h]

/-- A property that `s` has and that `f` keeps holds after `andThen`. -/
theorem andThen_keeps {s : State} {f : State → State} (P : State → Prop) (h : P s)
    (hf : s.fatal = none → P (f s)) : P (andThen s f) := by
  cases e : s.fatal with
  | none => rw [andThen_running e]; exact hf e
  | some x => rw [andThen_stopped e]; exact h

/-! The stack (41 R133, R134). -/

/-- R12: the stack byte of `sp` lies in RAM. -/
theorem stackAddr_toNat (sp : Byte) : (stackAddr sp).toNat = 0x100 + sp.toNat := by
  have h := sp.isLt
  simp only [stackAddr, zext16, BitVec.toNat_add, BitVec.toNat_setWidth, BitVec.toNat_ofNat]
  omega

/-- R133: a push within the stack. -/
theorem push_eq (o : Origin) (v : Byte) (s : State) (h : s.cpu.sp ≠ 0x00#8) :
    push o v s = (s.setRam (s.ram.write (0x100 + s.cpu.sp.toNat) v)).setCpu (s.cpu.setSp (s.cpu.sp - 1#8)) := by
  have hs := s.cpu.sp.isLt
  unfold push
  rw [if_neg h, memWrite_lowRam _ _ _ (by rw [stackAddr_toNat]; omega), stackAddr_toNat, Nat.mod_eq_of_lt (by omega)]
  rfl

/-- R133, R422: a push at the stack boundary. -/
theorem push_boundary (o : Origin) (v : Byte) (s : State) (h : s.cpu.sp = 0x00#8) :
    push o v s = raise (.stackBoundary o) s := by
  unfold push
  rw [if_pos h]

/-- R134: a pull, which always completes. -/
theorem pull_eq (s : State) :
    pull s = (s.ram.read (0x100 + (s.cpu.sp + 1#8).toNat), s.setCpu (s.cpu.setSp (s.cpu.sp + 1#8))) := by
  have hs := (s.cpu.sp + 1#8).isLt
  unfold pull
  dsimp only
  rw [memRead_lowRam _ _ (by rw [stackAddr_toNat]; omega), stackAddr_toNat, Nat.mod_eq_of_lt (by omega)]
  rfl

/-- R191, R218: a 16-bit push that fits: high byte at the higher address. -/
theorem pushWord_eq (o : Origin) (w : Word) (s : State) (hf : s.fatal = none) (h : 2 ≤ s.cpu.sp.toNat) :
    pushWord o w s =
      (s.setRam ((s.ram.write (0x100 + s.cpu.sp.toNat) (hiByte w)).write (0x100 + (s.cpu.sp.toNat - 1)) (loByte w))).setCpu
        (s.cpu.setSp (s.cpu.sp - 2#8)) := by
  have h0 : s.cpu.sp ≠ 0x00#8 := by intro e; rw [e] at h; simp at h
  have h1 : s.cpu.sp - 1#8 ≠ 0x00#8 := by intro e; bv_omega
  have hn : (s.cpu.sp - 1#8).toNat = s.cpu.sp.toNat - 1 := by bv_omega
  unfold pushWord
  rw [push_eq o _ s h0, andThen_running (by simpa using hf), push_eq o _ _ (by simpa using h1)]
  simp only [State.setCpu_cpu, State.setCpu_ram, State.setRam_ram, Cpu.setSp_sp, hn]
  have : s.cpu.sp - 1#8 - 1#8 = s.cpu.sp - 2#8 := by bv_omega
  rw [this]
  rfl

/-- R192, R219: a 16-bit pull, the low byte first. -/
theorem pullWord_eq (s : State) :
    pullWord s = (mkWord (s.ram.read (0x100 + (s.cpu.sp + 2#8).toNat)) (s.ram.read (0x100 + (s.cpu.sp + 1#8).toNat)),
      s.setCpu (s.cpu.setSp (s.cpu.sp + 2#8))) := by
  have : s.cpu.sp + 1#8 + 1#8 = s.cpu.sp + 2#8 := by bv_omega
  unfold pullWord
  simp only [pull_eq, State.setCpu_cpu, State.setCpu_ram, Cpu.setSp_sp, this]
  rfl

/-! Exceptions (60_exceptions.md R429). -/

/-- R61: loading `PC` from a vector, all of which lie in the cartridge (20_memory.md R57). -/
theorem loadVector_eq (vector : Word) (s : State) (h : 0x6000 ≤ vector.toNat) (h' : vector.toNat < 0xFFFF) :
    loadVector vector s =
      s.setCpu (s.cpu.setPc (mkWord (cartRead s (vector.toNat + 1)) (cartRead s vector.toNat))) := by
  have hn : (vector + 1#16).toNat = vector.toNat + 1 := by
    simp only [BitVec.toNat_add, BitVec.toNat_ofNat]
    omega
  unfold loadVector memRead16
  simp only [memRead_cartridge vector s h, memRead_cartridge (vector + 1#16) s (by omega), hn]

end Sys2Proof.Machine
end

