-- ==== Sys2Proof/Laws/Operands.lean ====
section
/-! SUPPORT. What addressing, operand reads and the shapes of a meaning can do. -/

namespace Sys2Proof.Machine

/-! Addressing (40_addressing_modes.md R101 to R112): a resolution reads pointers and sets the `addr_abs` latch. -/

@[simp] theorem resolvedAt_addr (a : Word) (b : Bool) (s : State) : (resolvedAt a b s).addr = a := rfl
@[simp] theorem resolvedAt_crossed (a : Word) (b : Bool) (s : State) : (resolvedAt a b s).crossed = b := rfl
@[simp] theorem resolvedAt_st (a : Word) (b : Bool) (s : State) :
    (resolvedAt a b s).st = s.setCpu (s.cpu.setAddrAbs a) := rfl

@[simp] theorem resolve_fatal (m : Mode) (s : State) : (resolve m s).st.fatal = s.fatal := by
  cases m <;> simp [resolve, indexed, indirectPointer, zeroPagePointer]
@[simp] theorem resolve_ram (m : Mode) (s : State) : (resolve m s).st.ram = s.ram := by
  cases m <;> simp [resolve, indexed, indirectPointer, zeroPagePointer]
@[simp] theorem resolve_clk (m : Mode) (s : State) : (resolve m s).st.clk = s.clk := by
  cases m <;> simp [resolve, indexed, indirectPointer, zeroPagePointer]
@[simp] theorem resolve_dma (m : Mode) (s : State) : (resolve m s).st.dma = s.dma := by
  cases m <;> simp [resolve, indexed, indirectPointer, zeroPagePointer]
@[simp] theorem resolve_mapper (m : Mode) (s : State) : (resolve m s).st.mapper = s.mapper := by
  cases m <;> simp [resolve, indexed, indirectPointer, zeroPagePointer]
@[simp] theorem resolve_mirror (m : Mode) (s : State) : (resolve m s).st.mirror = s.mirror := by
  cases m <;> simp [resolve, indexed, indirectPointer, zeroPagePointer]
@[simp] theorem resolve_prgRam (m : Mode) (s : State) : (resolve m s).st.prgRam = s.prgRam := by
  cases m <;> simp [resolve, indexed, indirectPointer, zeroPagePointer]
@[simp] theorem resolve_chrRam (m : Mode) (s : State) : (resolve m s).st.chrRam = s.chrRam := by
  cases m <;> simp [resolve, indexed, indirectPointer, zeroPagePointer]
@[simp] theorem resolve_cart (m : Mode) (s : State) : (resolve m s).st.cart = s.cart := by
  cases m <;> simp [resolve, indexed, indirectPointer, zeroPagePointer]
@[simp] theorem resolve_params (m : Mode) (s : State) : (resolve m s).st.params = s.params := by
  cases m <;> simp [resolve, indexed, indirectPointer, zeroPagePointer]
@[simp] theorem resolve_apuWrites (m : Mode) (s : State) : (resolve m s).st.apuWrites = s.apuWrites := by
  cases m <;> simp [resolve, indexed, indirectPointer, zeroPagePointer]
@[simp] theorem resolve_saves (m : Mode) (s : State) : (resolve m s).st.saves = s.saves := by
  cases m <;> simp [resolve, indexed, indirectPointer, zeroPagePointer]
@[simp] theorem resolve_hostQueue (m : Mode) (s : State) : (resolve m s).st.hostQueue = s.hostQueue := by
  cases m <;> simp [resolve, indexed, indirectPointer, zeroPagePointer]
@[simp] theorem resolve_cpu (m : Mode) (s : State) : (resolve m s).st.cpu = s.cpu.setAddrAbs (resolve m s).addr := by
  cases m <;> simp [resolve, indexed, indirectPointer, zeroPagePointer]
  rfl

@[simp] theorem resolve_ppu_nt0 (m : Mode) (s : State) : (resolve m s).st.ppu.nt0 = s.ppu.nt0 := by
  cases m <;> simp [resolve, indexed, indirectPointer, zeroPagePointer]
@[simp] theorem resolve_ppu_nt1 (m : Mode) (s : State) : (resolve m s).st.ppu.nt1 = s.ppu.nt1 := by
  cases m <;> simp [resolve, indexed, indirectPointer, zeroPagePointer]
@[simp] theorem resolve_ppu_pal (m : Mode) (s : State) : (resolve m s).st.ppu.pal = s.ppu.pal := by
  cases m <;> simp [resolve, indexed, indirectPointer, zeroPagePointer]
@[simp] theorem resolve_ppu_oam (m : Mode) (s : State) : (resolve m s).st.ppu.oam = s.ppu.oam := by
  cases m <;> simp [resolve, indexed, indirectPointer, zeroPagePointer]
@[simp] theorem resolve_ppu_mask (m : Mode) (s : State) : (resolve m s).st.ppu.mask = s.ppu.mask := by
  cases m <;> simp [resolve, indexed, indirectPointer, zeroPagePointer]
@[simp] theorem resolve_ppu_control (m : Mode) (s : State) : (resolve m s).st.ppu.control = s.ppu.control := by
  cases m <;> simp [resolve, indexed, indirectPointer, zeroPagePointer]
@[simp] theorem resolve_ppu_tram (m : Mode) (s : State) : (resolve m s).st.ppu.tram = s.ppu.tram := by
  cases m <;> simp [resolve, indexed, indirectPointer, zeroPagePointer]
@[simp] theorem resolve_ppu_fineX (m : Mode) (s : State) : (resolve m s).st.ppu.fineX = s.ppu.fineX := by
  cases m <;> simp [resolve, indexed, indirectPointer, zeroPagePointer]
@[simp] theorem resolve_ppu_oamAddr (m : Mode) (s : State) : (resolve m s).st.ppu.oamAddr = s.ppu.oamAddr := by
  cases m <;> simp [resolve, indexed, indirectPointer, zeroPagePointer]
@[simp] theorem resolve_ppu_scanline (m : Mode) (s : State) : (resolve m s).st.ppu.scanline = s.ppu.scanline := by
  cases m <;> simp [resolve, indexed, indirectPointer, zeroPagePointer]
@[simp] theorem resolve_ppu_cycle (m : Mode) (s : State) : (resolve m s).st.ppu.cycle = s.ppu.cycle := by
  cases m <;> simp [resolve, indexed, indirectPointer, zeroPagePointer]

/-! Operand reads (R113). -/

@[simp] theorem operand_fatal (m : Mode) (r : Resolved) : (operand m r).2.fatal = r.st.fatal := by
  cases m <;> simp [operand]
@[simp] theorem operand_ram (m : Mode) (r : Resolved) : (operand m r).2.ram = r.st.ram := by
  cases m <;> simp [operand]
@[simp] theorem operand_clk (m : Mode) (r : Resolved) : (operand m r).2.clk = r.st.clk := by
  cases m <;> simp [operand]
@[simp] theorem operand_dma (m : Mode) (r : Resolved) : (operand m r).2.dma = r.st.dma := by
  cases m <;> simp [operand]
@[simp] theorem operand_mapper (m : Mode) (r : Resolved) : (operand m r).2.mapper = r.st.mapper := by
  cases m <;> simp [operand]
@[simp] theorem operand_mirror (m : Mode) (r : Resolved) : (operand m r).2.mirror = r.st.mirror := by
  cases m <;> simp [operand]
@[simp] theorem operand_prgRam (m : Mode) (r : Resolved) : (operand m r).2.prgRam = r.st.prgRam := by
  cases m <;> simp [operand]
@[simp] theorem operand_chrRam (m : Mode) (r : Resolved) : (operand m r).2.chrRam = r.st.chrRam := by
  cases m <;> simp [operand]
@[simp] theorem operand_cart (m : Mode) (r : Resolved) : (operand m r).2.cart = r.st.cart := by
  cases m <;> simp [operand]
@[simp] theorem operand_params (m : Mode) (r : Resolved) : (operand m r).2.params = r.st.params := by
  cases m <;> simp [operand]
@[simp] theorem operand_apuWrites (m : Mode) (r : Resolved) : (operand m r).2.apuWrites = r.st.apuWrites := by
  cases m <;> simp [operand]
@[simp] theorem operand_saves (m : Mode) (r : Resolved) : (operand m r).2.saves = r.st.saves := by
  cases m <;> simp [operand]
@[simp] theorem operand_hostQueue (m : Mode) (r : Resolved) : (operand m r).2.hostQueue = r.st.hostQueue := by
  cases m <;> simp [operand]
@[simp] theorem operand_cpu (m : Mode) (r : Resolved) : (operand m r).2.cpu = r.st.cpu := by
  cases m <;> simp [operand]
@[simp] theorem operand_ppu_nt0 (m : Mode) (r : Resolved) : (operand m r).2.ppu.nt0 = r.st.ppu.nt0 := by
  cases m <;> simp [operand]
@[simp] theorem operand_ppu_nt1 (m : Mode) (r : Resolved) : (operand m r).2.ppu.nt1 = r.st.ppu.nt1 := by
  cases m <;> simp [operand]
@[simp] theorem operand_ppu_pal (m : Mode) (r : Resolved) : (operand m r).2.ppu.pal = r.st.ppu.pal := by
  cases m <;> simp [operand]
@[simp] theorem operand_ppu_oam (m : Mode) (r : Resolved) : (operand m r).2.ppu.oam = r.st.ppu.oam := by
  cases m <;> simp [operand]
@[simp] theorem operand_ppu_mask (m : Mode) (r : Resolved) : (operand m r).2.ppu.mask = r.st.ppu.mask := by
  cases m <;> simp [operand]
@[simp] theorem operand_ppu_control (m : Mode) (r : Resolved) : (operand m r).2.ppu.control = r.st.ppu.control := by
  cases m <;> simp [operand]
@[simp] theorem operand_ppu_tram (m : Mode) (r : Resolved) : (operand m r).2.ppu.tram = r.st.ppu.tram := by
  cases m <;> simp [operand]
@[simp] theorem operand_ppu_fineX (m : Mode) (r : Resolved) : (operand m r).2.ppu.fineX = r.st.ppu.fineX := by
  cases m <;> simp [operand]
@[simp] theorem operand_ppu_oamAddr (m : Mode) (r : Resolved) : (operand m r).2.ppu.oamAddr = r.st.ppu.oamAddr := by
  cases m <;> simp [operand]
@[simp] theorem operand_ppu_scanline (m : Mode) (r : Resolved) : (operand m r).2.ppu.scanline = r.st.ppu.scanline := by
  cases m <;> simp [operand]
@[simp] theorem operand_ppu_cycle (m : Mode) (r : Resolved) : (operand m r).2.ppu.cycle = r.st.ppu.cycle := by
  cases m <;> simp [operand]

/-- R113: in a memory mode the operand is one Bus read at the resolved address. -/
theorem operand_memory {m : Mode} (r : Resolved) (h : m ≠ .acc) (h' : ∀ v, m ≠ .imm v) :
    operand m r = memRead r.addr r.st := by
  cases m <;> first | rfl | exact absurd rfl h | exact absurd rfl (h' _)

/-! The shapes of a meaning. Each completes in a running machine, with the state it says. -/

/-- The end of an instruction in which no fatal condition arose. -/
theorem finish_running (n : Nat) {s : State} (h : s.fatal = none) : finish n s = .next (s.setCpu (s.cpu.setCycles n)) := by
  unfold finish
  rw [andThen_running h]

/-- The end of an instruction that raised a fatal condition. -/
theorem finish_stopped (n : Nat) {s : State} {x : Fatal} (h : s.fatal = some x) : finish n s = .next s := by
  unfold finish
  rw [andThen_stopped h]

theorem totalCycles_eq (base : Nat) (e c : Bool) : totalCycles base e c = if e && c then base + 1 else base := by
  unfold totalCycles
  cases e && c <;> rfl

theorem readOp_eq (m : Mode) (base : Nat) (e : Bool) (f : Cpu → Byte → Cpu) {s : State} (h : s.fatal = none) :
    readOp m base e f s = .next ((operand m (resolve m s)).2.setCpu
      ((f (s.cpu.setAddrAbs (resolve m s).addr) (operand m (resolve m s)).1).setCycles
        (totalCycles base e (resolve m s).crossed))) := by
  simp [readOp, finish_running, h]

theorem storeOp_eq (m : Mode) (base : Nat) (v : Byte) {s : State} (h : s.fatal = none) :
    storeOp m base v s = .next ((memWrite (resolve m s).addr v (resolve m s).st).setCpu
      ((s.cpu.setAddrAbs (resolve m s).addr).setCycles base)) := by
  simp [storeOp, finish_running, h]

theorem modifyOp_memory (m : Mode) (hm : m ≠ .acc) (base : Nat) (f : Cpu → Byte → Byte × Cpu) {s : State}
    (h : s.fatal = none) :
    modifyOp m base f s =
      let v := operand m (resolve m s)
      let w := f (s.cpu.setAddrAbs (resolve m s).addr) v.1
      .next ((memWrite (resolve m s).addr w.1 v.2).setCpu (w.2.setCycles base)) := by
  cases m <;> first | exact absurd rfl hm | simp [modifyOp, writeBack, finish_running, h, memWrite_setCpu]

theorem modifyOp_acc (base : Nat) (f : Cpu → Byte → Byte × Cpu) {s : State} (h : s.fatal = none) :
    modifyOp .acc base f s =
      .next (s.setCpu (((f s.cpu s.cpu.a).2.setA (f s.cpu s.cpu.a).1).setCycles base)) := by
  simp [modifyOp, writeBack, resolve, operand, finish_running, h]

theorem registerOp_eq (base : Nat) (f : Cpu → Cpu) {s : State} (h : s.fatal = none) :
    registerOp base f s = .next (s.setCpu ((f s.cpu).setCycles base)) := by
  simp [registerOp, finish_running, h]

theorem branch_eq (cond : Bool) (d : Byte) {s : State} (h : s.fatal = none) :
    branch cond d s =
      let target := s.cpu.pc + sext16 d
      let c := s.cpu.setAddrRel (sext16 d)
      .next (s.setCpu (if cond then
          (c.setPc target).setCycles (if page target != page s.cpu.pc then 4 else 3)
        else c.setCycles 2)) := by
  unfold branch
  cases cond
  · simp [finish_running, h]
  · simp only [if_true]
    split <;> simp_all [finish_running]

end Sys2Proof.Machine
end

