-- ==== Sys2Proof/Laws/Render.lean ====
section
/-! SUPPORT. What a PPU cycle can change: the PPU record (never its memories or its port registers, `vram` apart) and,
at a tick, the mapper. -/

namespace Sys2Proof.Machine

@[simp] theorem State.onPpu_ppu (f : Ppu → Ppu) (s : State) : (s.onPpu f).ppu = f s.ppu := rfl
@[simp] theorem State.onPpu_cpu (f : Ppu → Ppu) (s : State) : (s.onPpu f).cpu = s.cpu := rfl
@[simp] theorem State.onPpu_fatal (f : Ppu → Ppu) (s : State) : (s.onPpu f).fatal = s.fatal := rfl
@[simp] theorem State.onPpu_ram (f : Ppu → Ppu) (s : State) : (s.onPpu f).ram = s.ram := rfl
@[simp] theorem State.onPpu_clk (f : Ppu → Ppu) (s : State) : (s.onPpu f).clk = s.clk := rfl
@[simp] theorem State.onPpu_dma (f : Ppu → Ppu) (s : State) : (s.onPpu f).dma = s.dma := rfl
@[simp] theorem State.onPpu_mapper (f : Ppu → Ppu) (s : State) : (s.onPpu f).mapper = s.mapper := rfl
@[simp] theorem State.onPpu_mirror (f : Ppu → Ppu) (s : State) : (s.onPpu f).mirror = s.mirror := rfl
@[simp] theorem State.onPpu_prgRam (f : Ppu → Ppu) (s : State) : (s.onPpu f).prgRam = s.prgRam := rfl
@[simp] theorem State.onPpu_chrRam (f : Ppu → Ppu) (s : State) : (s.onPpu f).chrRam = s.chrRam := rfl
@[simp] theorem State.onPpu_cart (f : Ppu → Ppu) (s : State) : (s.onPpu f).cart = s.cart := rfl
@[simp] theorem State.onPpu_params (f : Ppu → Ppu) (s : State) : (s.onPpu f).params = s.params := rfl
@[simp] theorem State.onPpu_pads (f : Ppu → Ppu) (s : State) : (s.onPpu f).pads = s.pads := rfl
@[simp] theorem State.onPpu_apuDraws (f : Ppu → Ppu) (s : State) : (s.onPpu f).apuDraws = s.apuDraws := rfl
@[simp] theorem State.onPpu_apuWrites (f : Ppu → Ppu) (s : State) : (s.onPpu f).apuWrites = s.apuWrites := rfl
@[simp] theorem State.onPpu_saves (f : Ppu → Ppu) (s : State) : (s.onPpu f).saves = s.saves := rfl
@[simp] theorem State.onPpu_hostQueue (f : Ppu → Ppu) (s : State) : (s.onPpu f).hostQueue = s.hostQueue := rfl

/-! The loopy registers as numbers (47_ppu_registers_memory.md R274, 48_ppu_rendering.md R328, R329, R331, R332). -/

theorem loopy_toNat (fy : BitVec 3) (ny nx : BitVec 1) (cy cx : BitVec 5) :
    (loopy fy ny nx cy cx).toNat = 4096 * fy.toNat + 2048 * ny.toNat + 1024 * nx.toNat + 32 * cy.toNat + cx.toNat := by
  have h1 := cx.isLt
  have h2 := cy.isLt
  have h3 := nx.isLt
  have h4 := ny.isLt
  unfold loopy
  simp only [BitVec.toNat_append]
  rw [← Nat.shiftLeft_add_eq_or_of_lt h4, ← Nat.shiftLeft_add_eq_or_of_lt h3, ← Nat.shiftLeft_add_eq_or_of_lt h2,
    ← Nat.shiftLeft_add_eq_or_of_lt h1]
  simp only [Nat.shiftLeft_eq]
  omega

@[simp] theorem coarseX_toNat (v : BitVec 15) : (coarseX v).toNat = v.toNat % 32 := by simp [coarseX]
@[simp] theorem coarseY_toNat (v : BitVec 15) : (coarseY v).toNat = v.toNat / 32 % 32 := by
  simp [coarseY, Nat.shiftRight_eq_div_pow]
@[simp] theorem ntX_toNat (v : BitVec 15) : (ntX v).toNat = v.toNat / 1024 % 2 := by
  simp [ntX, Nat.shiftRight_eq_div_pow]
@[simp] theorem ntY_toNat (v : BitVec 15) : (ntY v).toNat = v.toNat / 2048 % 2 := by
  simp [ntY, Nat.shiftRight_eq_div_pow]
@[simp] theorem fineY_toNat (v : BitVec 15) : (fineY v).toNat = v.toNat / 4096 := by
  have := v.isLt
  simp [fineY, Nat.shiftRight_eq_div_pow]; omega

theorem setCoarseX_toNat (v : BitVec 15) (x : BitVec 5) : (setCoarseX v x).toNat = v.toNat - v.toNat % 32 + x.toNat := by
  simp [setCoarseX, loopy_toNat]; omega
theorem setCoarseY_toNat (v : BitVec 15) (x : BitVec 5) :
    (setCoarseY v x).toNat = v.toNat - 32 * (v.toNat / 32 % 32) + 32 * x.toNat := by
  simp [setCoarseY, loopy_toNat]; omega
theorem setNtX_toNat (v : BitVec 15) (x : BitVec 1) :
    (setNtX v x).toNat = v.toNat - 1024 * (v.toNat / 1024 % 2) + 1024 * x.toNat := by
  simp [setNtX, loopy_toNat]; omega
theorem setNtY_toNat (v : BitVec 15) (x : BitVec 1) :
    (setNtY v x).toNat = v.toNat - 2048 * (v.toNat / 2048 % 2) + 2048 * x.toNat := by
  simp [setNtY, loopy_toNat]; omega
theorem setFineY_toNat (v : BitVec 15) (x : BitVec 3) : (setFineY v x).toNat = v.toNat % 4096 + 4096 * x.toNat := by
  simp [setFineY, loopy_toNat]; omega

theorem flip_toNat (b : BitVec 1) : (b ^^^ 1#1).toNat = 1 - b.toNat := by revert b; decide

/-- R328. -/
theorem nextColumn_toNat (v : BitVec 15) :
    (nextColumn v).toNat =
      if v.toNat % 32 = 31 then (if v.toNat / 1024 % 2 = 0 then v.toNat - 31 + 1024 else v.toNat - 31 - 1024)
      else v.toNat + 1 := by
  have h : coarseX v = 31#5 ↔ v.toNat % 32 = 31 := by rw [← BitVec.toNat_inj, coarseX_toNat]; rfl
  unfold nextColumn
  by_cases e : v.toNat % 32 = 31
  · rw [if_pos (h.mpr e), if_pos e, setNtX_toNat, setCoarseX_toNat, flip_toNat, ntX_toNat]
    simp; split <;> omega
  · rw [if_neg (mt h.mp e), if_neg e, setCoarseX_toNat, BitVec.toNat_add, coarseX_toNat]
    simp; omega

/-- R329. -/
theorem nextRow_toNat (v : BitVec 15) :
    (nextRow v).toNat =
      if v.toNat / 4096 < 7 then v.toNat + 4096
      else if v.toNat / 32 % 32 = 29 then
        (if v.toNat / 2048 % 2 = 0 then v.toNat % 4096 - 928 + 2048 else v.toNat % 4096 - 928 - 2048)
      else if v.toNat / 32 % 32 = 31 then v.toNat % 4096 - 992
      else v.toNat % 4096 + 32 := by
  have hv := v.isLt
  have h7 : fineY v = 7#3 ↔ v.toNat / 4096 = 7 := by rw [← BitVec.toNat_inj, fineY_toNat]; rfl
  have hu : (setFineY v 0#3).toNat = v.toNat % 4096 := setFineY_toNat v 0#3
  have hy : ∀ k : BitVec 5, coarseY (setFineY v 0#3) = k ↔ v.toNat / 32 % 32 = k.toNat := by
    intro k
    rw [← BitVec.toNat_inj, coarseY_toNat, hu]
    omega
  have h29 : coarseY (setFineY v 0#3) = 29#5 ↔ v.toNat / 32 % 32 = 29 := hy 29#5
  have h31 : coarseY (setFineY v 0#3) = 31#5 ↔ v.toNat / 32 % 32 = 31 := hy 31#5
  unfold nextRow
  dsimp only
  by_cases e : v.toNat / 4096 = 7
  · rw [if_pos (h7.mpr e), if_neg (show ¬ v.toNat / 4096 < 7 by omega)]
    by_cases e1 : v.toNat / 32 % 32 = 29
    · rw [if_pos (h29.mpr e1), if_pos e1, setNtY_toNat, setCoarseY_toNat, flip_toNat, ntY_toNat, hu]
      simp only [BitVec.toNat_ofNat]
      split <;> omega
    · rw [if_neg (mt h29.mp e1), if_neg e1]
      by_cases e2 : v.toNat / 32 % 32 = 31
      · rw [if_pos (h31.mpr e2), if_pos e2, setCoarseY_toNat, hu]
        simp only [BitVec.toNat_ofNat]
        omega
      · rw [if_neg (mt h31.mp e2), if_neg e2, setCoarseY_toNat, BitVec.toNat_add, coarseY_toNat, hu]
        simp only [BitVec.toNat_ofNat]
        omega
  · rw [if_neg (mt h7.mp e), if_pos (show v.toNat / 4096 < 7 by omega), setFineY_toNat, BitVec.toNat_add, fineY_toNat]
    simp only [BitVec.toNat_ofNat]
    omega

/-- R331: the horizontal transfer. -/
theorem transferX_toNat (v t : BitVec 15) :
    (setCoarseX (setNtX v (ntX t)) (coarseX t)).toNat =
      v.toNat - (v.toNat % 32 + 1024 * (v.toNat / 1024 % 2)) + (t.toNat % 32 + 1024 * (t.toNat / 1024 % 2)) := by
  rw [setCoarseX_toNat, setNtX_toNat, ntX_toNat, coarseX_toNat]
  omega

/-- R332: the vertical transfer. -/
theorem transferY_toNat (v t : BitVec 15) :
    (setCoarseY (setNtY (setFineY v (fineY t)) (ntY t)) (coarseY t)).toNat =
      v.toNat % 32 + 1024 * (v.toNat / 1024 % 2) + (t.toNat - (t.toNat % 32 + 1024 * (t.toNat / 1024 % 2))) := by
  have := t.isLt
  rw [setCoarseY_toNat, setNtY_toNat, setFineY_toNat, ntY_toNat, coarseY_toNat, fineY_toNat]
  omega

/-- A property that `x` has and that `f` keeps holds after `applyIf`. -/
theorem applyIf_keeps {α : Type} (P : α → Prop) {c : Bool} {f : α → α} {x : α} (h : P x)
    (hf : c = true → P x → P (f x)) : P (applyIf c f x) := by
  unfold applyIf
  split
  · exact hf ‹_› h
  · exact h

/-- A projection that `f` leaves alone, `applyIf` leaves alone. -/
theorem applyIf_proj {α β : Type} (g : α → β) (c : Bool) {f : α → α} (x : α) (hf : g (f x) = g x) :
    g (applyIf c f x) = g x := by
  unfold applyIf
  split
  · exact hf
  · rfl

/-- What one part of a PPU cycle may change. -/
theorem windowAction_frame (s : State) : windowAction s = s.setPpu (windowAction s).ppu := by
  unfold windowAction
  split <;> rfl

/-- Steps that change nothing but the PPU record compose. -/
theorem ppuOnly_trans {s t u : State} (h : t = s.setPpu t.ppu) (h' : u = t.setPpu u.ppu) : u = s.setPpu u.ppu := by
  rw [h'] at *
  rw [h]
  rfl

theorem ppuOnly_applyIf {f : State → State} (hf : ∀ s, f s = s.setPpu (f s).ppu) (c : Bool) (s : State) :
    applyIf c f s = s.setPpu (applyIf c f s).ppu := by
  cases c
  · rfl
  · exact hf s

theorem ppuOnly_onPpu (f : Ppu → Ppu) (s : State) : s.onPpu f = s.setPpu (s.onPpu f).ppu := rfl

theorem fetchWork_frame (s : State) : fetchWork s = s.setPpu (fetchWork s).ppu := by
  unfold fetchWork
  dsimp only
  refine ppuOnly_trans ?_ (ppuOnly_applyIf (fun _ => rfl) _ _)
  iterate 4 refine ppuOnly_trans ?_ (ppuOnly_onPpu _ _)
  refine ppuOnly_trans ?_ (ppuOnly_applyIf (fun s => ?_) _ _)
  · exact ppuOnly_trans (ppuOnly_onPpu _ _) (ppuOnly_onPpu _ _)
  · exact ppuOnly_trans (t := s.onPpu updateShifters) rfl (windowAction_frame _)

theorem composePixel_frame (s : State) : composePixel s = s.setPpu (composePixel s).ppu := rfl

theorem mapperTick_frame (s : State) : mapperTick s = s.setMapper (mapperTick s).mapper := by
  unfold mapperTick applyIf
  split <;> rfl

/-- R344: a PPU cycle changes the PPU and at most the mapper. -/
theorem ppuClock_frame (s : State) : ppuClock s = (s.setPpu (ppuClock s).ppu).setMapper (ppuClock s).mapper := by
  have ht : ∀ (c : Bool) (s : State), applyIf c mapperTick s = s.setMapper (applyIf c mapperTick s).mapper := by
    intro c s
    cases c
    · rfl
    · exact mapperTick_frame s
  unfold ppuClock
  dsimp only
  rw [ht, ppuOnly_applyIf (fun _ => rfl) _ (State.onPpu _ _), ppuOnly_applyIf fetchWork_frame]
  rfl

@[simp] theorem ppuClock_cpu (s : State) : (ppuClock s).cpu = s.cpu := by rw [ppuClock_frame]; rfl
@[simp] theorem ppuClock_fatal (s : State) : (ppuClock s).fatal = s.fatal := by rw [ppuClock_frame]; rfl
@[simp] theorem ppuClock_ram (s : State) : (ppuClock s).ram = s.ram := by rw [ppuClock_frame]; rfl
@[simp] theorem ppuClock_clk (s : State) : (ppuClock s).clk = s.clk := by rw [ppuClock_frame]; rfl
@[simp] theorem ppuClock_dma (s : State) : (ppuClock s).dma = s.dma := by rw [ppuClock_frame]; rfl
@[simp] theorem ppuClock_mirror (s : State) : (ppuClock s).mirror = s.mirror := by rw [ppuClock_frame]; rfl
@[simp] theorem ppuClock_prgRam (s : State) : (ppuClock s).prgRam = s.prgRam := by rw [ppuClock_frame]; rfl
@[simp] theorem ppuClock_chrRam (s : State) : (ppuClock s).chrRam = s.chrRam := by rw [ppuClock_frame]; rfl
@[simp] theorem ppuClock_cart (s : State) : (ppuClock s).cart = s.cart := by rw [ppuClock_frame]; rfl
@[simp] theorem ppuClock_params (s : State) : (ppuClock s).params = s.params := by rw [ppuClock_frame]; rfl
@[simp] theorem ppuClock_pads (s : State) : (ppuClock s).pads = s.pads := by rw [ppuClock_frame]; rfl
@[simp] theorem ppuClock_apuDraws (s : State) : (ppuClock s).apuDraws = s.apuDraws := by rw [ppuClock_frame]; rfl
@[simp] theorem ppuClock_apuWrites (s : State) : (ppuClock s).apuWrites = s.apuWrites := by rw [ppuClock_frame]; rfl
@[simp] theorem ppuClock_saves (s : State) : (ppuClock s).saves = s.saves := by rw [ppuClock_frame]; rfl
@[simp] theorem ppuClock_hostQueue (s : State) : (ppuClock s).hostQueue = s.hostQueue := by rw [ppuClock_frame]; rfl

/-! Single parts of a cycle. -/

/-- A part of the PPU record that vertical blank, composition and the position counters leave alone is, after a PPU
cycle, what the fetch work of a line -1 to 239 has left. -/
theorem ppuClock_keeps {β : Type} (g : Ppu → β) (hv : ∀ p, g (beginVblank p) = g p)
    (hc : ∀ s, g (composePixel s).ppu = g s.ppu) (ha : ∀ p, g (advancePosition p) = g p) (s : State) :
    g (ppuClock s).ppu = if s.ppu.fetchLine then g (fetchWork s).ppu else g s.ppu := by
  unfold ppuClock
  dsimp only
  rw [State.onPpu_ppu, ha, applyIf_proj (fun s => g (State.toBlock s).ppu) _ _ (by rw [mapperTick_frame]; rfl),
    applyIf_proj (fun s => g (State.toBlock s).ppu) _ _ (hc _)]
  rw [State.onPpu_ppu, applyIf_proj g _ _ (hv _)]
  unfold applyIf
  split <;> rfl

/-- R322: the skip is at cycle 0 only. -/
theorem oddSkip_of_pos {p : Ppu} (h : 1 ≤ p.cycle) : oddSkip p = p := by
  unfold oddSkip Ppu.at
  rw [if_neg]
  simp
  omega

/-- R333: a part of the PPU record other than the shifters and the sprite slots. -/
theorem updateShifters_keeps {β : Type} (g : Ppu → β) (hb : ∀ p, g (shiftBackground p) = g p)
    (hs : ∀ p x, g { p with spr := x } = g p) (p : Ppu) : g (updateShifters p) = g p := by
  unfold updateShifters
  dsimp only
  rw [applyIf_proj g _ _ (hs _ _), applyIf_proj g _ _ (hb _)]

/-- R65: a PPU read looks at the PPU's memories and its mask, and at no other part of the PPU record. -/
theorem ppuRead_setPpu (s : State) (p : Ppu) (h0 : p.nt0 = s.ppu.nt0) (h1 : p.nt1 = s.ppu.nt1) (hp : p.pal = s.ppu.pal)
    (hm : p.mask = s.ppu.mask) (a : Nat) : ppuRead (s.setPpu p) a = ppuRead s a := by
  unfold ppuRead ntRead palRead cartPpuRead Ppu.grayscale
  simp only [State.setPpu_ppu, State.setPpu_mirror, State.setPpu_mapper, State.setPpu_cart, State.setPpu_chrRam, h0, h1,
    hp, hm]
  rfl

/-- R338: the slot that is found is the first whose pixel is opaque. -/
theorem firstOpaque_eq_some (i : Nat) (l : List SpriteSlot) (k : Nat) (d : SpriteSlot) :
    firstOpaque i l = some (k, d) ↔
      i ≤ k ∧ l[k - i]? = some d ∧ d.pixel ≠ 0#2 ∧ ∀ j, j < k - i → ∀ e, l[j]? = some e → e.pixel = 0#2 := by
  induction l generalizing i with
  | nil => simp [firstOpaque]
  | cons a l ih =>
    unfold firstOpaque
    by_cases h : a.pixel = 0#2
    · rw [if_pos h, ih]
      constructor
      · rintro ⟨h1, h2, h3, h4⟩
        refine ⟨by omega, ?_, h3, ?_⟩
        · rw [show k - i = (k - (i + 1)) + 1 by omega]
          simpa using h2
        · intro j hj e he
          cases j with
          | zero =>
            simp only [List.getElem?_cons_zero, Option.some.injEq] at he
            rw [← he]
            exact h
          | succ j => exact h4 j (by omega) e (by simpa using he)
      · rintro ⟨h1, h2, h3, h4⟩
        have hne : k ≠ i := by
          rintro rfl
          simp only [Nat.sub_self, List.getElem?_cons_zero, Option.some.injEq] at h2
          exact h3 (h2 ▸ h)
        refine ⟨by omega, ?_, h3, fun j hj e he => h4 (j + 1) (by omega) e (by simpa using he)⟩
        rw [show k - i = (k - (i + 1)) + 1 by omega] at h2
        simpa using h2
    · rw [if_neg h]
      constructor
      · intro e
        cases e
        exact ⟨Nat.le_refl _, by simp, h, fun j hj => by omega⟩
      · rintro ⟨h1, h2, h3, h4⟩
        by_cases hk : k = i
        · subst hk
          simpa using h2
        · exact absurd (h4 0 (by omega) a (by simp)) h

end Sys2Proof.Machine
end

