-- ==== Sys2Proof/Laws/Step.lean ====
section
/-! SUPPORT. The step of a block on which the host does nothing, the fetch, and the exception operations. -/

namespace Sys2Proof.Machine

/-! The step. -/

theorem takeHost_idle {s : State} (h : s.hostQueue = []) : takeHost s = s := by
  unfold takeHost
  rw [h]

/-- R230: the step of a block that has stopped. -/
theorem step_stopped {s : State} (hq : s.hostQueue = []) (hc : s.cart.prgBanks ≠ 0) (hf : s.fatal ≠ none) :
    step s = .next s := by
  unfold step guardedStep
  rw [takeHost_idle hq, if_neg hc]
  unfold busStep
  cases h : s.fatal with
  | none => exact absurd h hf
  | some x => rfl

/-- R230: the step of a running block. -/
theorem step_running {s : State} (hq : s.hostQueue = []) (hc : s.cart.prgBanks ≠ 0) (hf : s.fatal = none) :
    step s = bindOut (if s.clk % 3 = 0 then slot (ppuClock s) else .next (ppuClock s)) fun t =>
      .next (endStep (irqHeld (ppuClock s) t) t) := by
  unfold step guardedStep
  rw [takeHost_idle hq, if_neg hc]
  unfold busStep
  rw [hf]
  simp

/-- An IRQ is held off in no step that fetches nothing. -/
theorem irqHeld_of_atFetch {s t : State} (h : s.atFetch = false) : irqHeld s t = false := by simp [irqHeld, h]

/-- With the parameter at 60_exceptions.md R427's side, an IRQ is never held off. -/
theorem irqHeld_of_params {s t : State} (h : s.params.rtiDelaysIrq = false) : irqHeld s t = false := by simp [irqHeld, h]

@[simp] theorem routeIrq_none {held : Bool} {s : State} (h : s.mapper.pending = false) : routeIrq held s = s := by
  simp [routeIrq, applyIf, h]

@[simp] theorem bindOut_next (s : State) (f : State → Out) : bindOut (.next s) f = f s := rfl

/-! The host's moves (R249). -/

@[simp] theorem restoreBlock_params (b : Block) (s : State) : (restoreBlock b s).params = s.params := rfl
@[simp] theorem restoreBlock_apuDraws (b : Block) (s : State) : (restoreBlock b s).apuDraws = s.apuDraws := rfl
@[simp] theorem restoreBlock_apuWrites (b : Block) (s : State) : (restoreBlock b s).apuWrites = s.apuWrites := rfl
@[simp] theorem restoreBlock_saves (b : Block) (s : State) : (restoreBlock b s).saves = s.saves := rfl
@[simp] theorem restoreBlock_hostQueue (b : Block) (s : State) : (restoreBlock b s).hostQueue = s.hostQueue := rfl

theorem applyMove_save (s : State) : applyMove s .save = s.setSaves (s.toBlock :: s.saves) := rfl

theorem restorable_iff (b : Block) (s : State) :
    restorable b s = true ↔ s.params.restoresFatal = true ∨ b.fatal = s.fatal := by
  simp [restorable]

/-- A restore of a saved state: the whole block, or nothing. -/
theorem applyMove_restore {s : State} {k : Nat} {b : Block} (h : s.saves[k]? = some b) :
    applyMove s (.restore k) = if restorable b s then restoreBlock b s else s := by
  simp only [applyMove, h]
  rfl

/-- A restore of a state that was not saved changes nothing. -/
theorem applyMove_restore_none {s : State} {k : Nat} (h : s.saves.length ≤ k) : applyMove s (.restore k) = s := by
  simp [applyMove, List.getElem?_eq_none h]

/-! The fetch (R232). -/

@[simp] theorem fetchByte_fst (s : State) : (fetchByte s).1 = (memRead s.cpu.pc s).1 := rfl

theorem fetchByte_memory {s : State} (h : isMemory s.cpu.pc) :
    fetchByte s = ((memRead s.cpu.pc s).1, s.setCpu (s.cpu.setPc (s.cpu.pc + 1#16))) := by
  unfold fetchByte
  simp only [memRead_memory s.cpu.pc s h]

/-- A fetched byte list has the length that its opcode selects. -/
theorem fetchBytes_length (n : Nat) (s : State) : (fetchBytes n s).1.length = n := by
  induction n generalizing s with
  | zero => rfl
  | succ n ih => simp [fetchBytes, ih]

/-! Fields that a fetch leaves alone. -/

theorem fetchByte_keeps {α : Type} (g : State → α) (hr : ∀ a s, g (memRead a s).2 = g s)
    (hc : ∀ s c, g (State.setCpu s c) = g s) (s : State) : g (fetchByte s).2 = g s := by
  simp only [fetchByte, hc, hr]

theorem fetchBytes_keeps {α : Type} (g : State → α) (hr : ∀ a s, g (memRead a s).2 = g s)
    (hc : ∀ s c, g (State.setCpu s c) = g s) (n : Nat) (s : State) : g (fetchBytes n s).2 = g s := by
  induction n generalizing s with
  | zero => rfl
  | succ n ih => simp only [fetchBytes, ih, fetchByte_keeps g hr hc]

theorem fetchInstrBytes_keeps {α : Type} (g : State → α) (hr : ∀ a s, g (memRead a s).2 = g s)
    (hc : ∀ s c, g (State.setCpu s c) = g s) (s : State) : g (fetchInstrBytes s).2 = g s := by
  simp only [fetchInstrBytes, fetchBytes_keeps g hr hc, hc, fetchByte_keeps g hr hc]

theorem fetch_fatal (s : State) : (fetch s).2.fatal = s.fatal :=
  fetchInstrBytes_keeps (fun s => s.fatal) (by simp) (by simp) s

/-! Exceptions (60_exceptions.md R429). -/

/-- A part of the state that a Bus write to RAM, a change of the CPU and a fatal status leave alone, a push leaves
alone. -/
theorem push_keeps {α : Type} (g : State → α) (hw : ∀ s m, g (State.setRam s m) = g s)
    (hc : ∀ s c, g (State.setCpu s c) = g s) (hf : ∀ s f, g (State.setFatal s f) = g s) (o : Origin) (v : Byte)
    (s : State) : g (push o v s) = g s := by
  by_cases h : s.cpu.sp = 0x00#8
  · rw [push_boundary o v s h]
    exact hf s _
  · rw [push_eq o v s h, hc, hw]

theorem pushWord_keeps {α : Type} (g : State → α) (hw : ∀ s m, g (State.setRam s m) = g s)
    (hc : ∀ s c, g (State.setCpu s c) = g s) (hf : ∀ s f, g (State.setFatal s f) = g s) (o : Origin) (w : Word)
    (s : State) : g (pushWord o w s) = g s := by
  unfold pushWord
  refine andThen_keeps (fun t => g t = g s) (push_keeps g hw hc hf o _ s) fun _ => ?_
  rw [push_keeps g hw hc hf, push_keeps g hw hc hf]

/-- Taking an exception changes at most the CPU record, RAM and the fatal status; both vectors lie in the cartridge. -/
theorem takeException_keeps {α : Type} (g : State → α) (hw : ∀ s m, g (State.setRam s m) = g s)
    (hc : ∀ s c, g (State.setCpu s c) = g s) (hf : ∀ s f, g (State.setFatal s f) = g s) (o : Origin) (v : Word)
    (status : Byte) (s : State) (hv : 0x6000 ≤ v.toNat) (hv' : v.toNat < 0xFFFF) :
    g (takeException o v status s) = g s := by
  unfold takeException
  refine andThen_keeps (fun t => g t = g s) (pushWord_keeps g hw hc hf o _ s) fun _ => ?_
  refine andThen_keeps (fun t => g t = g s) ?_ fun _ => ?_
  · rw [push_keeps g hw hc hf, pushWord_keeps g hw hc hf]
  · rw [loadVector_eq _ _ hv hv', hc, hc, push_keeps g hw hc hf, pushWord_keeps g hw hc hf]

theorem interruptEntry_keeps {α : Type} (g : State → α) (hw : ∀ s m, g (State.setRam s m) = g s)
    (hc : ∀ s c, g (State.setCpu s c) = g s) (hf : ∀ s f, g (State.setFatal s f) = g s) (o : Origin) (v : Word)
    (s : State) (hv : 0x6000 ≤ v.toNat) (hv' : v.toNat < 0xFFFF) : g (interruptEntry o v s) = g s := by
  unfold interruptEntry
  refine andThen_keeps (fun t => g t = g s) (takeException_keeps g hw hc hf o v _ s hv hv') fun _ => ?_
  rw [hc, takeException_keeps g hw hc hf o v _ s hv hv']

end Sys2Proof.Machine
end

