-- ==== Sys2Proof/Laws/Exception.lean ====
section
/-! SUPPORT. Taking an exception and returning from one, as one equation each: the case in which the three pushes fit, and
the case in which they meet the stack boundary. -/

namespace Sys2Proof.Machine

theorem hiByte_eq (w : Word) : hiByte w = BitVec.ofNat 8 (w.toNat / 256) := by
  apply BitVec.eq_of_toNat_eq
  simp [hiByte, Nat.shiftRight_eq_div_pow]

theorem loByte_eq (w : Word) : loByte w = BitVec.ofNat 8 w.toNat := by
  apply BitVec.eq_of_toNat_eq
  simp [loByte]

theorem mkWord_toNat (hi lo : Byte) : (mkWord hi lo).toNat = 256 * hi.toNat + lo.toNat := by
  have h := lo.isLt
  rw [mkWord, BitVec.toNat_append, ← Nat.shiftLeft_add_eq_or_of_lt h, Nat.shiftLeft_eq]
  omega

/-- R429, R218: an exception whose pushes fit. -/
theorem takeException_eq (o : Origin) (v : Word) (st : Byte) (s : State) (hv : 0x6000 ≤ v.toNat) (hv' : v.toNat < 0xFFFF)
    (hf : s.fatal = none) (h : 3 ≤ s.cpu.sp.toNat) :
    takeException o v st s =
      (s.setRam (storePushes s.ram s.cpu.sp.toNat [hiByte s.cpu.pc, loByte s.cpu.pc, st])).setCpu
        (((s.cpu.setSp (s.cpu.sp - 3#8)).setP (s.cpu.p ||| 0x04#8)).setPc
          ((memRead (v + 1#16) s).1 ++ (memRead v s).1)) := by
  have e : s.cpu.sp - 2#8 - 1#8 = s.cpu.sp - 3#8 := by bv_omega
  have e' : (s.cpu.sp - 2#8).toNat = s.cpu.sp.toNat - 1 - 1 := by bv_omega
  have h0 : s.cpu.sp - 2#8 ≠ 0x00#8 := by
    intro h'
    rw [h'] at e'
    simp at e'
    omega
  have hn : (v + 1#16).toNat = v.toNat + 1 := by
    simp only [BitVec.toNat_add, BitVec.toNat_ofNat]
    omega
  unfold takeException
  rw [pushWord_eq _ _ _ hf (by omega), andThen_running (by simpa using hf), push_eq _ _ _ (by simpa using h0),
    andThen_running (by simpa using hf), loadVector_eq _ _ hv hv', memRead_cartridge _ _ hv,
    memRead_cartridge _ _ (by omega), hn]
  simp [storePushes, e, e', putBit, interruptBit, mkWord]
  rfl

/-- R422, R423: an exception that meets the stack boundary: the pushes before it stand, nothing else happens. -/
theorem takeException_boundary (o : Origin) (v : Word) (st : Byte) (s : State) (hf : s.fatal = none)
    (h : s.cpu.sp.toNat < 3) :
    takeException o v st s =
      ((s.setRam (storePushes s.ram s.cpu.sp.toNat
        ([hiByte s.cpu.pc, loByte s.cpu.pc, st].take s.cpu.sp.toNat))).setCpu
        (s.cpu.setSp 0x00#8)).setFatal (some (.stackBoundary o)) := by
  have hs : s.cpu.sp = 0#8 ∨ s.cpu.sp = 1#8 ∨ s.cpu.sp = 2#8 := by bv_omega
  unfold takeException
  rcases hs with e | e | e
  · have hc : s.cpu.setSp 0#8 = s.cpu := by rw [← e]; rfl
    unfold pushWord
    rw [push_boundary _ _ _ e]
    simp [andThen, raise, e, storePushes, hc]
    rfl
  · unfold pushWord
    rw [push_eq _ _ _ (by rw [e]; decide)]
    simp [andThen, hf, e, storePushes]
    rfl
  · rw [pushWord_eq _ _ _ hf (by rw [e]; decide), andThen_running (by simpa using hf), push_boundary _ _ _ (by simp [e])]
    simp [andThen, raise, e, storePushes]

/-- R219: the return from an exception, which always completes. -/
theorem returnFromException_eq (s : State) :
    returnFromException s =
      s.setCpu (((s.cpu.setSp (s.cpu.sp + 3#8)).setP
        ((s.ram.read (0x100 + (s.cpu.sp.toNat + 1) % 256) &&& 0xCF#8) ||| 0x20#8)).setPc
        (s.ram.read (0x100 + (s.cpu.sp.toNat + 3) % 256) ++ s.ram.read (0x100 + (s.cpu.sp.toNat + 2) % 256))) := by
  have e1 : s.cpu.sp + 1#8 + 1#8 = s.cpu.sp + 2#8 := by bv_omega
  have e2 : s.cpu.sp + 1#8 + 2#8 = s.cpu.sp + 3#8 := by bv_omega
  unfold returnFromException
  simp [pull_eq, pullWord_eq, statusCanonical, mkWord, e1, e2]
  rfl

end Sys2Proof.Machine
end

