-- ==== Sys2Proof/Laws/Flags.lean ====
section
/-! SUPPORT. Single bits of `P` and what the flag computations leave alone. -/

namespace Sys2Proof.Machine

/-- One bit of a word with one bit set. -/
theorem putBit_getLsbD {w : Nat} (v : BitVec w) {k : Nat} (b : Bool) (j : Nat) (hk : k < w) :
    (putBit v k b).getLsbD j = if j = k then b else v.getLsbD j := by
  unfold putBit
  by_cases hj : j < w
  · cases b <;> by_cases e : j = k <;> simp [e, hj, hk, Ne.symm]
  · have e : j ≠ k := by omega
    cases b <;> simp [e, BitVec.getLsbD_of_ge _ _ (Nat.le_of_not_lt hj)]

theorem putBit_getElem {w : Nat} (v : BitVec w) {k : Nat} (b : Bool) (j : Nat) (hj : j < w) (hk : k < w) :
    (putBit v k b)[j] = if j = k then b else v[j] := by
  rw [← BitVec.getLsbD_eq_getElem, putBit_getLsbD v b j hk, BitVec.getLsbD_eq_getElem hj]

@[simp] theorem Cpu.setFlag_p (c : Cpu) (k : Nat) (b : Bool) : (c.setFlag k b).p = putBit c.p k b := rfl
@[simp] theorem Cpu.setFlag_a (c : Cpu) (k : Nat) (b : Bool) : (c.setFlag k b).a = c.a := rfl
@[simp] theorem Cpu.setFlag_x (c : Cpu) (k : Nat) (b : Bool) : (c.setFlag k b).x = c.x := rfl
@[simp] theorem Cpu.setFlag_y (c : Cpu) (k : Nat) (b : Bool) : (c.setFlag k b).y = c.y := rfl
@[simp] theorem Cpu.setFlag_sp (c : Cpu) (k : Nat) (b : Bool) : (c.setFlag k b).sp = c.sp := rfl
@[simp] theorem Cpu.setFlag_pc (c : Cpu) (k : Nat) (b : Bool) : (c.setFlag k b).pc = c.pc := rfl
@[simp] theorem Cpu.setFlag_cycles (c : Cpu) (k : Nat) (b : Bool) : (c.setFlag k b).cycles = c.cycles := rfl
@[simp] theorem Cpu.setFlag_opcode (c : Cpu) (k : Nat) (b : Bool) : (c.setFlag k b).opcode = c.opcode := rfl
@[simp] theorem Cpu.setFlag_addrAbs (c : Cpu) (k : Nat) (b : Bool) : (c.setFlag k b).addrAbs = c.addrAbs := rfl
@[simp] theorem Cpu.setFlag_addrRel (c : Cpu) (k : Nat) (b : Bool) : (c.setFlag k b).addrRel = c.addrRel := rfl

/-- R151: the one's complement of a byte. -/
theorem complement_eq : ∀ m : Byte, m ^^^ 0xFF#8 = 0xFF#8 - m := by decide +kernel

/-- R120. -/
theorem Cpu.setZN_p (c : Cpu) (v : Byte) : (c.setZN v).p = putBit (putBit c.p 1 (v == 0x00#8)) 7 (v.getLsbD 7) := rfl

@[simp] theorem Cpu.setZN_a (c : Cpu) (v : Byte) : (c.setZN v).a = c.a := rfl
@[simp] theorem Cpu.setZN_x (c : Cpu) (v : Byte) : (c.setZN v).x = c.x := rfl
@[simp] theorem Cpu.setZN_y (c : Cpu) (v : Byte) : (c.setZN v).y = c.y := rfl
@[simp] theorem Cpu.setZN_sp (c : Cpu) (v : Byte) : (c.setZN v).sp = c.sp := rfl
@[simp] theorem Cpu.setZN_pc (c : Cpu) (v : Byte) : (c.setZN v).pc = c.pc := rfl
@[simp] theorem Cpu.setZN_cycles (c : Cpu) (v : Byte) : (c.setZN v).cycles = c.cycles := rfl
@[simp] theorem Cpu.setZN_opcode (c : Cpu) (v : Byte) : (c.setZN v).opcode = c.opcode := rfl
@[simp] theorem Cpu.setZN_addrAbs (c : Cpu) (v : Byte) : (c.setZN v).addrAbs = c.addrAbs := rfl
@[simp] theorem Cpu.setZN_addrRel (c : Cpu) (v : Byte) : (c.setZN v).addrRel = c.addrRel := rfl
@[simp] theorem Cpu.loadA_a (c : Cpu) (v : Byte) : (c.loadA v).a = v := rfl
@[simp] theorem Cpu.loadA_x (c : Cpu) (v : Byte) : (c.loadA v).x = c.x := rfl
@[simp] theorem Cpu.loadA_y (c : Cpu) (v : Byte) : (c.loadA v).y = c.y := rfl
@[simp] theorem Cpu.loadA_sp (c : Cpu) (v : Byte) : (c.loadA v).sp = c.sp := rfl
@[simp] theorem Cpu.loadA_pc (c : Cpu) (v : Byte) : (c.loadA v).pc = c.pc := rfl
@[simp] theorem Cpu.loadA_cycles (c : Cpu) (v : Byte) : (c.loadA v).cycles = c.cycles := rfl
@[simp] theorem Cpu.loadA_opcode (c : Cpu) (v : Byte) : (c.loadA v).opcode = c.opcode := rfl
@[simp] theorem Cpu.loadA_addrAbs (c : Cpu) (v : Byte) : (c.loadA v).addrAbs = c.addrAbs := rfl
@[simp] theorem Cpu.loadA_addrRel (c : Cpu) (v : Byte) : (c.loadA v).addrRel = c.addrRel := rfl
@[simp] theorem Cpu.loadX_a (c : Cpu) (v : Byte) : (c.loadX v).a = c.a := rfl
@[simp] theorem Cpu.loadX_x (c : Cpu) (v : Byte) : (c.loadX v).x = v := rfl
@[simp] theorem Cpu.loadX_y (c : Cpu) (v : Byte) : (c.loadX v).y = c.y := rfl
@[simp] theorem Cpu.loadX_sp (c : Cpu) (v : Byte) : (c.loadX v).sp = c.sp := rfl
@[simp] theorem Cpu.loadX_pc (c : Cpu) (v : Byte) : (c.loadX v).pc = c.pc := rfl
@[simp] theorem Cpu.loadX_cycles (c : Cpu) (v : Byte) : (c.loadX v).cycles = c.cycles := rfl
@[simp] theorem Cpu.loadX_opcode (c : Cpu) (v : Byte) : (c.loadX v).opcode = c.opcode := rfl
@[simp] theorem Cpu.loadX_addrAbs (c : Cpu) (v : Byte) : (c.loadX v).addrAbs = c.addrAbs := rfl
@[simp] theorem Cpu.loadX_addrRel (c : Cpu) (v : Byte) : (c.loadX v).addrRel = c.addrRel := rfl
@[simp] theorem Cpu.loadY_a (c : Cpu) (v : Byte) : (c.loadY v).a = c.a := rfl
@[simp] theorem Cpu.loadY_x (c : Cpu) (v : Byte) : (c.loadY v).x = c.x := rfl
@[simp] theorem Cpu.loadY_y (c : Cpu) (v : Byte) : (c.loadY v).y = v := rfl
@[simp] theorem Cpu.loadY_sp (c : Cpu) (v : Byte) : (c.loadY v).sp = c.sp := rfl
@[simp] theorem Cpu.loadY_pc (c : Cpu) (v : Byte) : (c.loadY v).pc = c.pc := rfl
@[simp] theorem Cpu.loadY_cycles (c : Cpu) (v : Byte) : (c.loadY v).cycles = c.cycles := rfl
@[simp] theorem Cpu.loadY_opcode (c : Cpu) (v : Byte) : (c.loadY v).opcode = c.opcode := rfl
@[simp] theorem Cpu.loadY_addrAbs (c : Cpu) (v : Byte) : (c.loadY v).addrAbs = c.addrAbs := rfl
@[simp] theorem Cpu.loadY_addrRel (c : Cpu) (v : Byte) : (c.loadY v).addrRel = c.addrRel := rfl
@[simp] theorem Cpu.compare_a (c : Cpu) (r m : Byte) : (c.compare r m).a = c.a := rfl
@[simp] theorem Cpu.bitTest_a (c : Cpu) (m : Byte) : (c.bitTest m).a = c.a := rfl
@[simp] theorem Cpu.shifted_a (c : Cpu) (b : Bool) (m : Byte) : (c.shifted b m).a = c.a := rfl
@[simp] theorem Cpu.asl_a (c : Cpu) (m : Byte) : (c.asl m).2.a = c.a := rfl
@[simp] theorem Cpu.lsr_a (c : Cpu) (m : Byte) : (c.lsr m).2.a = c.a := rfl
@[simp] theorem Cpu.rol_a (c : Cpu) (m : Byte) : (c.rol m).2.a = c.a := rfl
@[simp] theorem Cpu.ror_a (c : Cpu) (m : Byte) : (c.ror m).2.a = c.a := rfl
@[simp] theorem Cpu.inc_a (c : Cpu) (m : Byte) : (c.inc m).2.a = c.a := rfl
@[simp] theorem Cpu.dec_a (c : Cpu) (m : Byte) : (c.dec m).2.a = c.a := rfl
@[simp] theorem Cpu.compare_x (c : Cpu) (r m : Byte) : (c.compare r m).x = c.x := rfl
@[simp] theorem Cpu.bitTest_x (c : Cpu) (m : Byte) : (c.bitTest m).x = c.x := rfl
@[simp] theorem Cpu.shifted_x (c : Cpu) (b : Bool) (m : Byte) : (c.shifted b m).x = c.x := rfl
@[simp] theorem Cpu.addWithCarry_x (c : Cpu) (m : Byte) : (c.addWithCarry m).x = c.x := rfl
@[simp] theorem Cpu.subtractWithBorrow_x (c : Cpu) (m : Byte) : (c.subtractWithBorrow m).x = c.x := rfl
@[simp] theorem Cpu.asl_x (c : Cpu) (m : Byte) : (c.asl m).2.x = c.x := rfl
@[simp] theorem Cpu.lsr_x (c : Cpu) (m : Byte) : (c.lsr m).2.x = c.x := rfl
@[simp] theorem Cpu.rol_x (c : Cpu) (m : Byte) : (c.rol m).2.x = c.x := rfl
@[simp] theorem Cpu.ror_x (c : Cpu) (m : Byte) : (c.ror m).2.x = c.x := rfl
@[simp] theorem Cpu.inc_x (c : Cpu) (m : Byte) : (c.inc m).2.x = c.x := rfl
@[simp] theorem Cpu.dec_x (c : Cpu) (m : Byte) : (c.dec m).2.x = c.x := rfl
@[simp] theorem Cpu.compare_y (c : Cpu) (r m : Byte) : (c.compare r m).y = c.y := rfl
@[simp] theorem Cpu.bitTest_y (c : Cpu) (m : Byte) : (c.bitTest m).y = c.y := rfl
@[simp] theorem Cpu.shifted_y (c : Cpu) (b : Bool) (m : Byte) : (c.shifted b m).y = c.y := rfl
@[simp] theorem Cpu.addWithCarry_y (c : Cpu) (m : Byte) : (c.addWithCarry m).y = c.y := rfl
@[simp] theorem Cpu.subtractWithBorrow_y (c : Cpu) (m : Byte) : (c.subtractWithBorrow m).y = c.y := rfl
@[simp] theorem Cpu.asl_y (c : Cpu) (m : Byte) : (c.asl m).2.y = c.y := rfl
@[simp] theorem Cpu.lsr_y (c : Cpu) (m : Byte) : (c.lsr m).2.y = c.y := rfl
@[simp] theorem Cpu.rol_y (c : Cpu) (m : Byte) : (c.rol m).2.y = c.y := rfl
@[simp] theorem Cpu.ror_y (c : Cpu) (m : Byte) : (c.ror m).2.y = c.y := rfl
@[simp] theorem Cpu.inc_y (c : Cpu) (m : Byte) : (c.inc m).2.y = c.y := rfl
@[simp] theorem Cpu.dec_y (c : Cpu) (m : Byte) : (c.dec m).2.y = c.y := rfl
@[simp] theorem Cpu.compare_sp (c : Cpu) (r m : Byte) : (c.compare r m).sp = c.sp := rfl
@[simp] theorem Cpu.bitTest_sp (c : Cpu) (m : Byte) : (c.bitTest m).sp = c.sp := rfl
@[simp] theorem Cpu.shifted_sp (c : Cpu) (b : Bool) (m : Byte) : (c.shifted b m).sp = c.sp := rfl
@[simp] theorem Cpu.addWithCarry_sp (c : Cpu) (m : Byte) : (c.addWithCarry m).sp = c.sp := rfl
@[simp] theorem Cpu.subtractWithBorrow_sp (c : Cpu) (m : Byte) : (c.subtractWithBorrow m).sp = c.sp := rfl
@[simp] theorem Cpu.asl_sp (c : Cpu) (m : Byte) : (c.asl m).2.sp = c.sp := rfl
@[simp] theorem Cpu.lsr_sp (c : Cpu) (m : Byte) : (c.lsr m).2.sp = c.sp := rfl
@[simp] theorem Cpu.rol_sp (c : Cpu) (m : Byte) : (c.rol m).2.sp = c.sp := rfl
@[simp] theorem Cpu.ror_sp (c : Cpu) (m : Byte) : (c.ror m).2.sp = c.sp := rfl
@[simp] theorem Cpu.inc_sp (c : Cpu) (m : Byte) : (c.inc m).2.sp = c.sp := rfl
@[simp] theorem Cpu.dec_sp (c : Cpu) (m : Byte) : (c.dec m).2.sp = c.sp := rfl
@[simp] theorem Cpu.compare_pc (c : Cpu) (r m : Byte) : (c.compare r m).pc = c.pc := rfl
@[simp] theorem Cpu.bitTest_pc (c : Cpu) (m : Byte) : (c.bitTest m).pc = c.pc := rfl
@[simp] theorem Cpu.shifted_pc (c : Cpu) (b : Bool) (m : Byte) : (c.shifted b m).pc = c.pc := rfl
@[simp] theorem Cpu.addWithCarry_pc (c : Cpu) (m : Byte) : (c.addWithCarry m).pc = c.pc := rfl
@[simp] theorem Cpu.subtractWithBorrow_pc (c : Cpu) (m : Byte) : (c.subtractWithBorrow m).pc = c.pc := rfl
@[simp] theorem Cpu.asl_pc (c : Cpu) (m : Byte) : (c.asl m).2.pc = c.pc := rfl
@[simp] theorem Cpu.lsr_pc (c : Cpu) (m : Byte) : (c.lsr m).2.pc = c.pc := rfl
@[simp] theorem Cpu.rol_pc (c : Cpu) (m : Byte) : (c.rol m).2.pc = c.pc := rfl
@[simp] theorem Cpu.ror_pc (c : Cpu) (m : Byte) : (c.ror m).2.pc = c.pc := rfl
@[simp] theorem Cpu.inc_pc (c : Cpu) (m : Byte) : (c.inc m).2.pc = c.pc := rfl
@[simp] theorem Cpu.dec_pc (c : Cpu) (m : Byte) : (c.dec m).2.pc = c.pc := rfl
@[simp] theorem Cpu.compare_cycles (c : Cpu) (r m : Byte) : (c.compare r m).cycles = c.cycles := rfl
@[simp] theorem Cpu.bitTest_cycles (c : Cpu) (m : Byte) : (c.bitTest m).cycles = c.cycles := rfl
@[simp] theorem Cpu.shifted_cycles (c : Cpu) (b : Bool) (m : Byte) : (c.shifted b m).cycles = c.cycles := rfl
@[simp] theorem Cpu.addWithCarry_cycles (c : Cpu) (m : Byte) : (c.addWithCarry m).cycles = c.cycles := rfl
@[simp] theorem Cpu.subtractWithBorrow_cycles (c : Cpu) (m : Byte) : (c.subtractWithBorrow m).cycles = c.cycles := rfl
@[simp] theorem Cpu.asl_cycles (c : Cpu) (m : Byte) : (c.asl m).2.cycles = c.cycles := rfl
@[simp] theorem Cpu.lsr_cycles (c : Cpu) (m : Byte) : (c.lsr m).2.cycles = c.cycles := rfl
@[simp] theorem Cpu.rol_cycles (c : Cpu) (m : Byte) : (c.rol m).2.cycles = c.cycles := rfl
@[simp] theorem Cpu.ror_cycles (c : Cpu) (m : Byte) : (c.ror m).2.cycles = c.cycles := rfl
@[simp] theorem Cpu.inc_cycles (c : Cpu) (m : Byte) : (c.inc m).2.cycles = c.cycles := rfl
@[simp] theorem Cpu.dec_cycles (c : Cpu) (m : Byte) : (c.dec m).2.cycles = c.cycles := rfl
@[simp] theorem Cpu.compare_opcode (c : Cpu) (r m : Byte) : (c.compare r m).opcode = c.opcode := rfl
@[simp] theorem Cpu.bitTest_opcode (c : Cpu) (m : Byte) : (c.bitTest m).opcode = c.opcode := rfl
@[simp] theorem Cpu.shifted_opcode (c : Cpu) (b : Bool) (m : Byte) : (c.shifted b m).opcode = c.opcode := rfl
@[simp] theorem Cpu.addWithCarry_opcode (c : Cpu) (m : Byte) : (c.addWithCarry m).opcode = c.opcode := rfl
@[simp] theorem Cpu.subtractWithBorrow_opcode (c : Cpu) (m : Byte) : (c.subtractWithBorrow m).opcode = c.opcode := rfl
@[simp] theorem Cpu.asl_opcode (c : Cpu) (m : Byte) : (c.asl m).2.opcode = c.opcode := rfl
@[simp] theorem Cpu.lsr_opcode (c : Cpu) (m : Byte) : (c.lsr m).2.opcode = c.opcode := rfl
@[simp] theorem Cpu.rol_opcode (c : Cpu) (m : Byte) : (c.rol m).2.opcode = c.opcode := rfl
@[simp] theorem Cpu.ror_opcode (c : Cpu) (m : Byte) : (c.ror m).2.opcode = c.opcode := rfl
@[simp] theorem Cpu.inc_opcode (c : Cpu) (m : Byte) : (c.inc m).2.opcode = c.opcode := rfl
@[simp] theorem Cpu.dec_opcode (c : Cpu) (m : Byte) : (c.dec m).2.opcode = c.opcode := rfl
@[simp] theorem Cpu.compare_addrAbs (c : Cpu) (r m : Byte) : (c.compare r m).addrAbs = c.addrAbs := rfl
@[simp] theorem Cpu.bitTest_addrAbs (c : Cpu) (m : Byte) : (c.bitTest m).addrAbs = c.addrAbs := rfl
@[simp] theorem Cpu.shifted_addrAbs (c : Cpu) (b : Bool) (m : Byte) : (c.shifted b m).addrAbs = c.addrAbs := rfl
@[simp] theorem Cpu.addWithCarry_addrAbs (c : Cpu) (m : Byte) : (c.addWithCarry m).addrAbs = c.addrAbs := rfl
@[simp] theorem Cpu.subtractWithBorrow_addrAbs (c : Cpu) (m : Byte) : (c.subtractWithBorrow m).addrAbs = c.addrAbs := rfl
@[simp] theorem Cpu.asl_addrAbs (c : Cpu) (m : Byte) : (c.asl m).2.addrAbs = c.addrAbs := rfl
@[simp] theorem Cpu.lsr_addrAbs (c : Cpu) (m : Byte) : (c.lsr m).2.addrAbs = c.addrAbs := rfl
@[simp] theorem Cpu.rol_addrAbs (c : Cpu) (m : Byte) : (c.rol m).2.addrAbs = c.addrAbs := rfl
@[simp] theorem Cpu.ror_addrAbs (c : Cpu) (m : Byte) : (c.ror m).2.addrAbs = c.addrAbs := rfl
@[simp] theorem Cpu.inc_addrAbs (c : Cpu) (m : Byte) : (c.inc m).2.addrAbs = c.addrAbs := rfl
@[simp] theorem Cpu.dec_addrAbs (c : Cpu) (m : Byte) : (c.dec m).2.addrAbs = c.addrAbs := rfl
@[simp] theorem Cpu.compare_addrRel (c : Cpu) (r m : Byte) : (c.compare r m).addrRel = c.addrRel := rfl
@[simp] theorem Cpu.bitTest_addrRel (c : Cpu) (m : Byte) : (c.bitTest m).addrRel = c.addrRel := rfl
@[simp] theorem Cpu.shifted_addrRel (c : Cpu) (b : Bool) (m : Byte) : (c.shifted b m).addrRel = c.addrRel := rfl
@[simp] theorem Cpu.addWithCarry_addrRel (c : Cpu) (m : Byte) : (c.addWithCarry m).addrRel = c.addrRel := rfl
@[simp] theorem Cpu.subtractWithBorrow_addrRel (c : Cpu) (m : Byte) : (c.subtractWithBorrow m).addrRel = c.addrRel := rfl
@[simp] theorem Cpu.asl_addrRel (c : Cpu) (m : Byte) : (c.asl m).2.addrRel = c.addrRel := rfl
@[simp] theorem Cpu.lsr_addrRel (c : Cpu) (m : Byte) : (c.lsr m).2.addrRel = c.addrRel := rfl
@[simp] theorem Cpu.rol_addrRel (c : Cpu) (m : Byte) : (c.rol m).2.addrRel = c.addrRel := rfl
@[simp] theorem Cpu.ror_addrRel (c : Cpu) (m : Byte) : (c.ror m).2.addrRel = c.addrRel := rfl
@[simp] theorem Cpu.inc_addrRel (c : Cpu) (m : Byte) : (c.inc m).2.addrRel = c.addrRel := rfl
@[simp] theorem Cpu.dec_addrRel (c : Cpu) (m : Byte) : (c.dec m).2.addrRel = c.addrRel := rfl

end Sys2Proof.Machine
end

