-- ==== Sys2Proof/Laws/Exec.lean ====
section
/-! SUPPORT. The meaning of each family's rows as one shape over the row's mode, base count and eligibility. -/

namespace Sys2Proof.Machine

/-- The register of a load written, with Z and N. -/
def Cpu.load (c : Cpu) (r : Reg) (v : Byte) : Cpu :=
  match r with
  | .a => c.loadA v
  | .x => c.loadX v
  | .y => c.loadY v

theorem exec_load {i : Instr} {r : Reg} {f : Form} (h : loadForm i = some (r, f)) (s : State) :
    exec i s = readOp f.mode f.base f.eligible (fun c v => c.load r v) s := by
  cases i <;> cases h <;> rfl

theorem exec_store {i : Instr} {r : Reg} {f : Form} (h : storeForm i = some (r, f)) (s : State) :
    exec i s = storeOp f.mode f.base (s.cpu.reg r) s := by
  cases i <;> cases h <;> rfl

theorem exec_add {i : Instr} {b : Bool} {f : Form} (h : addForm i = some (b, f)) (s : State) :
    exec i s = readOp f.mode f.base f.eligible (fun c v => c.addWithCarry (if b then 0xFF#8 - v else v)) s := by
  cases i <;> cases h <;>
    simp only [if_true, Bool.false_eq_true, if_false, ← complement_eq] <;> rfl

theorem exec_logic {i : Instr} {k : Logic} {f : Form} (h : logicForm i = some (k, f)) (s : State) :
    exec i s = readOp f.mode f.base f.eligible (fun c v => c.loadA (k.apply c.a v)) s := by
  cases i <;> cases h <;> rfl

theorem exec_compare {i : Instr} {r : Reg} {f : Form} (h : compareForm i = some (r, f)) (s : State) :
    exec i s = readOp f.mode f.base f.eligible (fun c v => c.compare (c.reg r) v) s := by
  cases i <;> cases h <;> rfl

theorem exec_bit {i : Instr} {f : Form} (h : bitForm i = some f) (s : State) :
    exec i s = readOp f.mode f.base false Cpu.bitTest s := by
  cases i <;> cases h <;> rfl

/-- INC (true) or DEC (false). -/
def incDecOp : Bool → Cpu → Byte → Byte × Cpu
  | true => Cpu.inc
  | false => Cpu.dec

theorem exec_step {i : Instr} {b : Bool} {f : Form} (h : stepForm i = some (b, f)) (s : State) :
    exec i s = modifyOp f.mode f.base (incDecOp b) s := by
  cases i <;> cases h <;> rfl

/-- The operation of a shift. -/
def Shift.op : Shift → Cpu → Byte → Byte × Cpu
  | .asl => Cpu.asl
  | .lsr => Cpu.lsr
  | .rol => Cpu.rol
  | .ror => Cpu.ror

/-- R181 to R184: a shift's result is the number that `Shift.result` gives, and its flags are those of that result. -/
theorem Shift.op_result (k : Shift) (c : Cpu) (m : Byte) :
    (k.op c m).1 = BitVec.ofNat 8 (k.result (c.p.getLsbD 0) m) := by
  have hl : ∀ m : Byte, m <<< 1 = BitVec.ofNat 8 (m.toNat * 2 % 256) := by decide +kernel
  have hr : ∀ m : Byte, m >>> 1 = BitVec.ofNat 8 (m.toNat / 2) := by decide +kernel
  have hol : ∀ (b : Bool) (m : Byte), putBit (m <<< 1) 0 b = BitVec.ofNat 8 (m.toNat * 2 % 256 + b.toNat) := by
    decide +kernel
  have hor : ∀ (b : Bool) (m : Byte), putBit (m >>> 1) 7 b = BitVec.ofNat 8 (m.toNat / 2 + 128 * b.toNat) := by
    decide +kernel
  cases k
  · exact hl m
  · exact hr m
  · exact hol _ m
  · exact hor _ m

theorem Shift.op_cpu (k : Shift) (c : Cpu) (m : Byte) : (k.op c m).2 = c.shifted (k.out m) (k.op c m).1 := by
  cases k <;> rfl

theorem exec_shift {i : Instr} {k : Shift} {f : Form} (h : shiftForm i = some (k, f)) (s : State) :
    exec i s = modifyOp f.mode f.base k.op s := by
  cases i <;> cases h <;> rfl

theorem exec_jump {i : Instr} {f : Form} (h : jumpForm i = some f) (s : State) : exec i s = jmpOp f.mode f.base s := by
  cases i <;> cases h <;> rfl

theorem exec_branch {i : Instr} {f : BranchForm} (h : branchForm i = some f) (s : State) :
    exec i s = branch (s.cpu.p.getLsbD f.flag == f.value) f.displacement s := by
  cases i <;> cases h <;>
    exact congrArg (fun b => branch b _ s) (by simp [Cpu.flag, carryBit, zeroBit, negativeBit, overflowFlagBit])

theorem exec_flag {i : Instr} {op : Byte} {k : Nat} {b : Bool} (h : flagForm i = some (op, k, b)) (s : State) :
    exec i s = registerOp 2 (fun c => c.setFlag k b) s := by
  cases i <;> cases h <;> rfl

theorem exec_register {i : Instr} {op : Byte} {r : Reg} {v : Byte} (s : State)
    (h : registerForm s.cpu i = some (op, r, v)) : exec i s = registerOp 2 (fun c => c.load r v) s := by
  have hi : ∀ m : Byte, BitVec.ofNat 8 (m.toNat + 1) = m + 1#8 := by intro m; bv_omega
  have hd : ∀ m : Byte, BitVec.ofNat 8 (m.toNat + 255) = m - 1#8 := by intro m; bv_omega
  cases i <;> cases h <;> (try simp only [hi, hd]) <;> rfl

end Sys2Proof.Machine
end

