-- ==== Sys2Proof/Laws/HostQueue.lean ====
section
/-! SUPPORT. No part of a Bus step looks at the host's waiting moves: each operation gives the same with another queue,
which it leaves as it is. -/

namespace Sys2Proof.Machine

/-- An outcome with a function of the state applied to the next state. -/
def mapOut (f : State → State) : Out → Out
  | .next s => .next (f s)
  | .fault r => .fault r
  | .refused r => .refused r

/-- The queue stands beside the CPU record. -/
theorem setCpu_setHostQueue (s : State) (c : Cpu) (q : List (List HostMove)) :
    (s.setHostQueue q).setCpu c = (s.setCpu c).setHostQueue q := rfl

/-! The Bus. -/

theorem portRead_setHostQueue (s : State) (k : Nat) (q : List (List HostMove)) :
    portRead (s.setHostQueue q) k = ((portRead s k).1, (portRead s k).2.setHostQueue q) := by
  unfold portRead
  split <;> rfl

theorem memRead_setHostQueue (a : Word) (s : State) (q : List (List HostMove)) :
    memRead a (s.setHostQueue q) = ((memRead a s).1, (memRead a s).2.setHostQueue q) := by
  unfold memRead
  dsimp only
  repeat' split
  all_goals first | rfl | exact portRead_setHostQueue s _ q

theorem regWrite_setHostQueue (s : State) (a : Nat) (d : Byte) (q : List (List HostMove)) :
    regWrite (s.setHostQueue q) a d = (regWrite s a d).setHostQueue q := by
  unfold regWrite
  cases h : s.mapper <;> simp only [State.setHostQueue_mapper, h] <;> rfl

theorem ppuWrite_setHostQueue (s : State) (a : Nat) (d : Byte) (q : List (List HostMove)) :
    ppuWrite (s.setHostQueue q) a d = (ppuWrite s a d).setHostQueue q := by
  unfold ppuWrite cartPpuWrite
  dsimp only
  repeat' split
  all_goals first | rfl | contradiction

theorem portWrite_setHostQueue (s : State) (k : Nat) (d : Byte) (q : List (List HostMove)) :
    portWrite (s.setHostQueue q) k d = (portWrite s k d).setHostQueue q := by
  unfold portWrite dataWrite
  split <;> first | rfl | (dsimp only; rw [State.setHostQueue_ppu, ppuWrite_setHostQueue]; rfl)

theorem memWrite_setHostQueue (a : Word) (v : Byte) (s : State) (q : List (List HostMove)) :
    memWrite a v (s.setHostQueue q) = (memWrite a v s).setHostQueue q := by
  unfold memWrite cartWrite
  dsimp only
  repeat' split
  all_goals first | rfl | exact portWrite_setHostQueue s _ v q | exact regWrite_setHostQueue s _ v q

/-! Sequences, the stack and the exceptions. -/

theorem andThen_setHostQueue {s : State} {f : State → State} {q : List (List HostMove)}
    (hf : f (s.setHostQueue q) = (f s).setHostQueue q) : andThen (s.setHostQueue q) f = (andThen s f).setHostQueue q := by
  cases h : s.fatal with
  | none => rw [andThen_running h, andThen_running (s := s.setHostQueue q) h, hf]
  | some x => rw [andThen_stopped h, andThen_stopped (s := s.setHostQueue q) h]

theorem applyIf_setHostQueue {c : Bool} {s : State} {f : State → State} {q : List (List HostMove)}
    (hf : f (s.setHostQueue q) = (f s).setHostQueue q) :
    applyIf c f (s.setHostQueue q) = (applyIf c f s).setHostQueue q := by
  cases c
  · rfl
  · exact hf

theorem memRead16_setHostQueue (a : Word) (s : State) (q : List (List HostMove)) :
    memRead16 a (s.setHostQueue q) = ((memRead16 a s).1, (memRead16 a s).2.setHostQueue q) := by
  simp only [memRead16, memRead_setHostQueue]

theorem push_setHostQueue (o : Origin) (v : Byte) (s : State) (q : List (List HostMove)) :
    push o v (s.setHostQueue q) = (push o v s).setHostQueue q := by
  unfold push
  rw [State.setHostQueue_cpu]
  split
  · rfl
  · simp only [memWrite_setHostQueue]
    rfl

theorem pull_setHostQueue (s : State) (q : List (List HostMove)) :
    pull (s.setHostQueue q) = ((pull s).1, (pull s).2.setHostQueue q) :=
  memRead_setHostQueue _ (s.setCpu (s.cpu.setSp (s.cpu.sp + 1#8))) q

theorem pushWord_setHostQueue (o : Origin) (w : Word) (s : State) (q : List (List HostMove)) :
    pushWord o w (s.setHostQueue q) = (pushWord o w s).setHostQueue q := by
  unfold pushWord
  rw [push_setHostQueue]
  exact andThen_setHostQueue (push_setHostQueue _ _ _ _)

theorem pullWord_setHostQueue (s : State) (q : List (List HostMove)) :
    pullWord (s.setHostQueue q) = ((pullWord s).1, (pullWord s).2.setHostQueue q) := by
  simp only [pullWord, pull_setHostQueue]

theorem loadVector_setHostQueue (v : Word) (s : State) (q : List (List HostMove)) :
    loadVector v (s.setHostQueue q) = (loadVector v s).setHostQueue q := by
  simp only [loadVector, memRead16_setHostQueue, State.setHostQueue_cpu, setCpu_setHostQueue]

theorem takeException_setHostQueue (o : Origin) (v : Word) (status : Byte) (s : State) (q : List (List HostMove)) :
    takeException o v status (s.setHostQueue q) = (takeException o v status s).setHostQueue q := by
  unfold takeException
  rw [State.setHostQueue_cpu, pushWord_setHostQueue]
  refine andThen_setHostQueue ?_
  rw [push_setHostQueue]
  refine andThen_setHostQueue ?_
  simp only [State.setHostQueue_cpu, setCpu_setHostQueue, loadVector_setHostQueue]

theorem interruptEntry_setHostQueue (o : Origin) (v : Word) (s : State) (q : List (List HostMove)) :
    interruptEntry o v (s.setHostQueue q) = (interruptEntry o v s).setHostQueue q := by
  unfold interruptEntry
  rw [State.setHostQueue_cpu, takeException_setHostQueue]
  exact andThen_setHostQueue rfl

theorem returnFromException_setHostQueue (s : State) (q : List (List HostMove)) :
    returnFromException (s.setHostQueue q) = (returnFromException s).setHostQueue q := by
  simp only [returnFromException, pull_setHostQueue, pullWord_setHostQueue, State.setHostQueue_cpu, setCpu_setHostQueue]

/-! Instructions. -/

theorem resolve_setHostQueue (m : Mode) (s : State) (q : List (List HostMove)) :
    resolve m (s.setHostQueue q) = ⟨(resolve m s).addr, (resolve m s).crossed, (resolve m s).st.setHostQueue q⟩ := by
  cases m
  all_goals
    simp only [resolve, indexed, resolvedAt, indirectPointer, zeroPagePointer, memRead_setHostQueue,
      State.setHostQueue_cpu, setCpu_setHostQueue]

theorem operand_setHostQueue (m : Mode) (r : Resolved) (q : List (List HostMove)) :
    operand m ⟨r.addr, r.crossed, r.st.setHostQueue q⟩ = ((operand m r).1, (operand m r).2.setHostQueue q) := by
  cases m
  all_goals simp only [operand, memRead_setHostQueue, State.setHostQueue_cpu]

theorem finish_setHostQueue (n : Nat) (s : State) (q : List (List HostMove)) :
    finish n (s.setHostQueue q) = mapOut (fun t => t.setHostQueue q) (finish n s) := by
  unfold finish mapOut
  rw [andThen_setHostQueue rfl]

theorem readOp_setHostQueue (m : Mode) (base : Nat) (e : Bool) (f : Cpu → Byte → Cpu) (s : State)
    (q : List (List HostMove)) :
    readOp m base e f (s.setHostQueue q) = mapOut (fun t => t.setHostQueue q) (readOp m base e f s) := by
  unfold readOp
  simp only [resolve_setHostQueue, operand_setHostQueue]
  exact finish_setHostQueue _ ((operand m (resolve m s)).2.setCpu _) q

theorem storeOp_setHostQueue (m : Mode) (base : Nat) (v : Byte) (s : State) (q : List (List HostMove)) :
    storeOp m base v (s.setHostQueue q) = mapOut (fun t => t.setHostQueue q) (storeOp m base v s) := by
  unfold storeOp
  simp only [resolve_setHostQueue, memWrite_setHostQueue, finish_setHostQueue]

theorem modifyOp_setHostQueue (m : Mode) (base : Nat) (f : Cpu → Byte → Byte × Cpu) (s : State)
    (q : List (List HostMove)) :
    modifyOp m base f (s.setHostQueue q) = mapOut (fun t => t.setHostQueue q) (modifyOp m base f s) := by
  have hw : ∀ (m : Mode) (a : Word) (v : Byte) (u : State),
      writeBack m a v (u.setHostQueue q) = (writeBack m a v u).setHostQueue q := by
    intro m a v u
    cases m
    all_goals simp only [writeBack, memWrite_setHostQueue, State.setHostQueue_cpu, setCpu_setHostQueue]
  unfold modifyOp
  simp only [resolve_setHostQueue, operand_setHostQueue]
  rw [← finish_setHostQueue, ← hw]
  rfl

theorem registerOp_setHostQueue (base : Nat) (f : Cpu → Cpu) (s : State) (q : List (List HostMove)) :
    registerOp base f (s.setHostQueue q) = mapOut (fun t => t.setHostQueue q) (registerOp base f s) :=
  finish_setHostQueue base (s.setCpu (f s.cpu)) q

theorem branch_setHostQueue (c : Bool) (d : Byte) (s : State) (q : List (List HostMove)) :
    branch c d (s.setHostQueue q) = mapOut (fun t => t.setHostQueue q) (branch c d s) := by
  cases c
  · exact finish_setHostQueue 2 (s.setCpu (s.cpu.setAddrRel (sext16 d))) q
  · exact finish_setHostQueue _ ((s.setCpu (s.cpu.setAddrRel (sext16 d))).setCpu _) q

theorem exec_setHostQueue (i : Instr) (s : State) (q : List (List HostMove)) :
    exec i (s.setHostQueue q) = mapOut (fun t => t.setHostQueue q) (exec i s) := by
  have hload : ∀ x, loadForm i = some x → exec i (s.setHostQueue q) = mapOut (fun t => t.setHostQueue q) (exec i s) :=
    fun _ h => by rw [exec_load h, exec_load h, readOp_setHostQueue]
  have hstore : ∀ x, storeForm i = some x → exec i (s.setHostQueue q) = mapOut (fun t => t.setHostQueue q) (exec i s) :=
    fun _ h => by rw [exec_store h, exec_store h, State.setHostQueue_cpu, storeOp_setHostQueue]
  have hadd : ∀ x, addForm i = some x → exec i (s.setHostQueue q) = mapOut (fun t => t.setHostQueue q) (exec i s) :=
    fun _ h => by rw [exec_add h, exec_add h, readOp_setHostQueue]
  have hlogic : ∀ x, logicForm i = some x → exec i (s.setHostQueue q) = mapOut (fun t => t.setHostQueue q) (exec i s) :=
    fun _ h => by rw [exec_logic h, exec_logic h, readOp_setHostQueue]
  have hcompare : ∀ x, compareForm i = some x →
      exec i (s.setHostQueue q) = mapOut (fun t => t.setHostQueue q) (exec i s) :=
    fun _ h => by rw [exec_compare h, exec_compare h, readOp_setHostQueue]
  have hbit : ∀ x, bitForm i = some x → exec i (s.setHostQueue q) = mapOut (fun t => t.setHostQueue q) (exec i s) :=
    fun _ h => by rw [exec_bit h, exec_bit h, readOp_setHostQueue]
  have hstep : ∀ x, stepForm i = some x → exec i (s.setHostQueue q) = mapOut (fun t => t.setHostQueue q) (exec i s) :=
    fun _ h => by rw [exec_step h, exec_step h, modifyOp_setHostQueue]
  have hshift : ∀ x, shiftForm i = some x → exec i (s.setHostQueue q) = mapOut (fun t => t.setHostQueue q) (exec i s) :=
    fun _ h => by rw [exec_shift h, exec_shift h, modifyOp_setHostQueue]
  have hjump : ∀ x, jumpForm i = some x → exec i (s.setHostQueue q) = mapOut (fun t => t.setHostQueue q) (exec i s) :=
    fun _ h => by
      rw [exec_jump h, exec_jump h]
      simp only [jmpOp, resolve_setHostQueue, State.setHostQueue_cpu, setCpu_setHostQueue, finish_setHostQueue]
  have hregister : ∀ x, registerForm s.cpu i = some x →
      exec i (s.setHostQueue q) = mapOut (fun t => t.setHostQueue q) (exec i s) :=
    fun _ h => by rw [exec_register (s.setHostQueue q) h, exec_register s h, registerOp_setHostQueue]
  have hflag : ∀ x, flagForm i = some x → exec i (s.setHostQueue q) = mapOut (fun t => t.setHostQueue q) (exec i s) :=
    fun _ h => by rw [exec_flag h, exec_flag h, registerOp_setHostQueue]
  have hbranch : ∀ x, branchForm i = some x → exec i (s.setHostQueue q) = mapOut (fun t => t.setHostQueue q) (exec i s) :=
    fun _ h => by rw [exec_branch h, exec_branch h, State.setHostQueue_cpu, branch_setHostQueue]
  cases i
  case ldaImm | ldaZp0 | ldaZpx | ldaAbs | ldaAbx | ldaAby | ldaIzx | ldaIzy | ldxImm | ldxZp0 | ldxZpy | ldxAbs
      | ldxAby | ldyImm | ldyZp0 | ldyZpx | ldyAbs | ldyAbx =>
    exact hload _ rfl
  case staZp0 | staZpx | staAbs | staAbx | staAby | staIzx | staIzy | stxZp0 | stxZpy | stxAbs | styZp0 | styZpx
      | styAbs =>
    exact hstore _ rfl
  case adcImm | adcZp0 | adcZpx | adcAbs | adcAbx | adcAby | adcIzx | adcIzy | sbcImm | sbcZp0 | sbcZpx | sbcAbs
      | sbcAbx | sbcAby | sbcIzx | sbcIzy =>
    exact hadd _ rfl
  case andImm | andZp0 | andZpx | andAbs | andAbx | andAby | andIzx | andIzy | oraImm | oraZp0 | oraZpx | oraAbs
      | oraAbx | oraAby | oraIzx | oraIzy | eorImm | eorZp0 | eorZpx | eorAbs | eorAbx | eorAby | eorIzx
      | eorIzy =>
    exact hlogic _ rfl
  case cmpImm | cmpZp0 | cmpZpx | cmpAbs | cmpAbx | cmpAby | cmpIzx | cmpIzy | cpxImm | cpxZp0 | cpxAbs | cpyImm
      | cpyZp0 | cpyAbs =>
    exact hcompare _ rfl
  case bitZp0 | bitAbs =>
    exact hbit _ rfl
  case incZp0 | incZpx | incAbs | incAbx | decZp0 | decZpx | decAbs | decAbx =>
    exact hstep _ rfl
  case aslAcc | aslZp0 | aslZpx | aslAbs | aslAbx | lsrAcc | lsrZp0 | lsrZpx | lsrAbs | lsrAbx | rolAcc | rolZp0
      | rolZpx | rolAbs | rolAbx | rorAcc | rorZp0 | rorZpx | rorAbs | rorAbx =>
    exact hshift _ rfl
  case jmpAbs | jmpInd =>
    exact hjump _ rfl
  case tax | tay | txa | tya | tsx | inx | iny | dex | dey =>
    exact hregister _ rfl
  case clc | sec | cli | sei | clv | cld | sed =>
    exact hflag _ rfl
  case txs | nop =>
    simp only [exec, execTxs, execNop, registerOp_setHostQueue]
  case bcc | bcs | beq | bne | bmi | bpl | bvc | bvs =>
    exact hbranch _ rfl
  case pha | php =>
    simp only [exec, execPha, execPhp, instrOrigin, State.setHostQueue_cpu, push_setHostQueue, finish_setHostQueue]
  case pla | plp =>
    simp only [exec, execPla, execPlp, pull_setHostQueue, State.setHostQueue_cpu, setCpu_setHostQueue,
      finish_setHostQueue]
  case jsr w =>
    simp only [exec, execJsr, jsrOp, instrOrigin, State.setHostQueue_cpu, resolve_setHostQueue, pushWord_setHostQueue]
    rw [andThen_setHostQueue rfl, finish_setHostQueue]
  case rts =>
    simp only [exec, execRts, pullWord_setHostQueue, State.setHostQueue_cpu, setCpu_setHostQueue, finish_setHostQueue]
  case brk =>
    simp only [exec, execBrk, instrOrigin, State.setHostQueue_cpu, setCpu_setHostQueue, takeException_setHostQueue,
      finish_setHostQueue]
  case rti =>
    simp only [exec, execRti, returnFromException_setHostQueue, finish_setHostQueue]
  case illegal op => rfl

/-! The PPU and the slots of a Bus step. -/

theorem fetchInstrBytes_setHostQueue (s : State) (q : List (List HostMove)) :
    fetchInstrBytes (s.setHostQueue q) = ((fetchInstrBytes s).1, (fetchInstrBytes s).2.setHostQueue q) := by
  have h1 : ∀ u : State, fetchByte (u.setHostQueue q) = ((fetchByte u).1, (fetchByte u).2.setHostQueue q) := by
    intro u
    simp only [fetchByte, State.setHostQueue_cpu, memRead_setHostQueue, setCpu_setHostQueue]
  have hn : ∀ (n : Nat) (u : State),
      fetchBytes n (u.setHostQueue q) = ((fetchBytes n u).1, (fetchBytes n u).2.setHostQueue q) := by
    intro n
    induction n with
    | zero => exact fun _ => rfl
    | succ n ih => intro u; simp only [fetchBytes, h1, ih]
  simp only [fetchInstrBytes, h1, State.setHostQueue_cpu, setCpu_setHostQueue, hn]

theorem ppuRead_setHostQueue (s : State) (a : Nat) (q : List (List HostMove)) :
    ppuRead (s.setHostQueue q) a = ppuRead s a := rfl

theorem ppuClock_setHostQueue (s : State) (q : List (List HostMove)) :
    ppuClock (s.setHostQueue q) = (ppuClock s).setHostQueue q := by
  have ha : ∀ u : State, windowAction (u.setHostQueue q) = (windowAction u).setHostQueue q := by
    intro u
    unfold windowAction
    rw [State.setHostQueue_ppu]
    split <;> rfl
  have ho : ∀ (f : Ppu → Ppu) (u : State), (u.setHostQueue q).onPpu f = (u.onPpu f).setHostQueue q := fun _ _ => rfl
  have hw : ∀ (c : Bool) (u : State), applyIf c (fun u => windowAction (u.onPpu updateShifters)) (u.setHostQueue q)
      = (applyIf c (fun u => windowAction (u.onPpu updateShifters)) u).setHostQueue q :=
    fun _ u => applyIf_setHostQueue (by simp only [ho, ha])
  have hl : ∀ (c : Bool) (u : State), applyIf c loadSpritePatterns (u.setHostQueue q)
      = (applyIf c loadSpritePatterns u).setHostQueue q := fun _ _ => applyIf_setHostQueue rfl
  have hf : ∀ (c : Bool) (u : State), applyIf c fetchWork (u.setHostQueue q) = (applyIf c fetchWork u).setHostQueue q :=
    fun _ u => applyIf_setHostQueue (by simp only [fetchWork, ho, State.setHostQueue_ppu, hw, hl])
  have hc : ∀ (c : Bool) (u : State), applyIf c composePixel (u.setHostQueue q)
      = (applyIf c composePixel u).setHostQueue q := fun _ _ => applyIf_setHostQueue rfl
  have ht : ∀ (c : Bool) (u : State), applyIf c mapperTick (u.setHostQueue q) = (applyIf c mapperTick u).setHostQueue q :=
    fun _ u => applyIf_setHostQueue (applyIf_setHostQueue (s := u) rfl)
  simp only [ppuClock, ho, State.setHostQueue_ppu, hf, hc, ht]

theorem dmaSlot_setHostQueue (s : State) (q : List (List HostMove)) :
    dmaSlot (s.setHostQueue q) = (dmaSlot s).setHostQueue q := by
  unfold dmaSlot
  cases hd : s.dma.dummy
  · by_cases hc : s.clk % 2 = 0
    · simp [hd, hc, memRead_setHostQueue]
      rfl
    · simp [hd, hc]
      rfl
  · by_cases hc : s.clk % 2 = 1
    · simp [hd, hc]
      rfl
    · simp [hd, hc]

theorem endStep_setHostQueue (held : Bool) (s : State) (q : List (List HostMove)) :
    endStep held (s.setHostQueue q) = (endStep held s).setHostQueue q := by
  have hi : ∀ u : State, cpuIrq (u.setHostQueue q) = (cpuIrq u).setHostQueue q := by
    intro u
    unfold cpuIrq
    rw [State.setHostQueue_cpu, interruptEntry_setHostQueue]
    split <;> rfl
  have hm : ∀ (u : State) (m : Mapper), (u.setHostQueue q).setMapper m = (u.setMapper m).setHostQueue q := fun _ _ => rfl
  have ho : ∀ (f : Ppu → Ppu) (u : State), (u.setHostQueue q).onPpu f = (u.onPpu f).setHostQueue q := fun _ _ => rfl
  have hn : ∀ u : State, routeNmi (u.setHostQueue q) = (routeNmi u).setHostQueue q := by
    intro u
    refine applyIf_setHostQueue ?_
    simp only [ho, cpuNmi, interruptEntry_setHostQueue]
  have hr : ∀ u : State, routeIrq held (u.setHostQueue q) = (routeIrq held u).setHostQueue q := by
    intro u
    refine applyIf_setHostQueue ?_
    simp only [State.setHostQueue_mapper, hm]
    exact applyIf_setHostQueue (hi _)
  unfold endStep
  refine andThen_setHostQueue ?_
  rw [hn]
  refine andThen_setHostQueue ?_
  rw [hr]
  exact andThen_setHostQueue rfl

end Sys2Proof.Machine
end

