-- ==== Sys2Proof/Tests/Slice0.lean ====
section
/-! SUPPORT. Tests. The expected results come from spec/95_test_vectors.md or are written out by hand from the rule that a
docstring names. The witnesses at the end meet the hypotheses of the statements of Certificates/Slice0/Obligations.lean. -/

namespace Sys2Proof.Tests

open Machine

/-! WellFormed: the one check, with a term that it refuses. -/

theorem test_wellFormed_illegal : Instr.wellFormed (.illegal 0x02#8) = true := by decide
theorem test_wellFormed_refuses_legal_byte : Instr.wellFormed (.illegal 0xA9#8) = false := by decide

/-! Decoding: words written out bit by bit from 30_encoding.md R84, at least one of each family. -/

theorem test_decode_lda : decode [0b10101001#8, 0b01111111#8] = .ok (.ldaImm 0x7F#8, []) := by decide
theorem test_decode_ldx : decode [0b10110110#8, 0b10000000#8] = .ok (.ldxZpy 0x80#8, []) := by decide
theorem test_decode_sta : decode [0b10011101#8, 0b11111111#8, 0b00000001#8] = .ok (.staAbx 0x01FF#16, []) := by decide
theorem test_decode_pha : decode [0b01001000#8] = .ok (.pha, []) := by decide
theorem test_decode_sbc : decode [0b11110001#8, 0b00010000#8] = .ok (.sbcIzy 0x10#8, []) := by decide
theorem test_decode_cpy : decode [0b11001100#8, 0b00000010#8, 0b00000011#8] = .ok (.cpyAbs 0x0302#16, []) := by decide
theorem test_decode_ror : decode [0b01111110#8, 0b00000000#8, 0b00000010#8] = .ok (.rorAbx 0x0200#16, []) := by decide
theorem test_decode_jsr : decode [0b00100000#8, 0b00010000#8, 0b10000000#8] = .ok (.jsr 0x8010#16, []) := by decide
theorem test_decode_bvs : decode [0b01110000#8, 0b10000000#8] = .ok (.bvs 0x80#8, []) := by decide
theorem test_decode_sed : decode [0b11111000#8, 0b11111111#8] = .ok (.sed, [0xFF#8]) := by decide
theorem test_decode_brk : decode [0b00000000#8, 0b11101010#8] = .ok (.brk, [0xEA#8]) := by decide
theorem test_decode_illegal : decode [0b11111111#8] = .ok (.illegal 0xFF#8, []) := by decide
theorem test_decode_truncated : decode [0b10101101#8, 0b00000000#8] = .error (.truncated 0xAD#8) := by decide
theorem test_table_word : decodeTableWord 24 0x1234AD = some (.ldaAbs 0x1234#16) := by decide

/-- The placed word is the instruction that the next step runs: the three bytes stand at `PC`, and a step after it has
run LDX #$41. -/
theorem test_withFetchWord :
    (match step (State.reset.withFetchWord 16 0x41A2) with
      | .next t => t.cpu.x == 0x41#8 && t.cpu.pc == 0x0002#16 && t.cpu.cycles == 1
      | _ => false) = true := by decide

/-! One instruction each, from spec/95_test_vectors.md sections 2.1 to 2.6. -/

/-- The base state of the vectors (section 0): registers as given, RAM as given, vectors 0x9000. -/
def start (pc : Word) (a x y sp p : Byte) (ram : List Host.Cell) : State :=
  ((State.reset.setCart { Cartridge.blank with prg := [(0x3FFF, 0x90#8)] }).setRam ram).setCpu
    { Cpu.reset {} pc with a := a, x := x, y := y, sp := sp, p := p, cycles := 0 }

/-- One instruction fetched and executed leaves these registers, count, fatal status and RAM bytes. -/
def ran (s : State) (a x y sp p : Byte) (pc : Word) (cycles : Nat) (fatal : Option Fatal) (ram : List Host.Cell) : Bool :=
  match runInstr s with
  | .next t =>
    t.cpu.a == a && t.cpu.x == x && t.cpu.y == y && t.cpu.sp == sp && t.cpu.p == p && t.cpu.pc == pc &&
      t.cpu.cycles == cycles && t.fatal == fatal && ram.all (fun c => t.ram.read c.1 == c.2)
  | _ => false

/-- 95_test_vectors.md A1. -/
theorem test_a1_opa9 :
    ran (start 0x0200#16 0x55#8 0x00#8 0x00#8 0xFD#8 0x24#8 [(0x0200, 0xA9#8)])
      0x00#8 0x00#8 0x00#8 0xFD#8 0x26#8 0x0202#16 2 (none) [] = true := by decide

/-- 95_test_vectors.md A2. -/
theorem test_a2_opa5 :
    ran (start 0x0200#16 0x00#8 0x00#8 0x00#8 0xFD#8 0x24#8 [(0x0010, 0x80#8), (0x0200, 0xA5#8), (0x0201, 0x10#8)])
      0x80#8 0x00#8 0x00#8 0xFD#8 0xA4#8 0x0202#16 3 (none) [] = true := by decide

/-- 95_test_vectors.md A3. -/
theorem test_a3_opb5 :
    ran (start 0x0200#16 0x00#8 0x20#8 0x00#8 0xFD#8 0x24#8 [(0x0010, 0x77#8), (0x0110, 0x99#8), (0x0200, 0xB5#8), (0x0201, 0xF0#8)])
      0x77#8 0x20#8 0x00#8 0xFD#8 0x24#8 0x0202#16 4 (none) [] = true := by decide

/-- 95_test_vectors.md A4. -/
theorem test_a4_opb6 :
    ran (start 0x0200#16 0x00#8 0x00#8 0x02#8 0xFD#8 0x24#8 [(0x0001, 0x80#8), (0x0200, 0xB6#8), (0x0201, 0xFF#8)])
      0x00#8 0x80#8 0x02#8 0xFD#8 0xA4#8 0x0202#16 4 (none) [] = true := by decide

/-- 95_test_vectors.md A5. -/
theorem test_a5_opac :
    ran (start 0x0200#16 0x00#8 0x00#8 0x00#8 0xFD#8 0x24#8 [(0x0200, 0xAC#8), (0x0202, 0x03#8)])
      0x00#8 0x00#8 0x00#8 0xFD#8 0x26#8 0x0203#16 4 (none) [] = true := by decide

/-- 95_test_vectors.md A6. -/
theorem test_a6_opbd :
    ran (start 0x0200#16 0x00#8 0x0F#8 0x00#8 0xFD#8 0x24#8 [(0x0200, 0xBD#8), (0x0201, 0x10#8), (0x0202, 0x03#8), (0x031F, 0x01#8)])
      0x01#8 0x0F#8 0x00#8 0xFD#8 0x24#8 0x0203#16 4 (none) [] = true := by decide

/-- 95_test_vectors.md A7. -/
theorem test_a7_opbd :
    ran (start 0x0200#16 0x00#8 0x0F#8 0x00#8 0xFD#8 0x24#8 [(0x0200, 0xBD#8), (0x0201, 0xF1#8), (0x0202, 0x03#8)])
      0x00#8 0x0F#8 0x00#8 0xFD#8 0x26#8 0x0203#16 5 (none) [] = true := by decide

/-- 95_test_vectors.md A8. -/
theorem test_a8_op9d :
    ran (start 0x0200#16 0x5A#8 0x0F#8 0x00#8 0xFD#8 0x24#8 [(0x0200, 0x9D#8), (0x0201, 0xF1#8), (0x0202, 0x03#8)])
      0x5A#8 0x0F#8 0x00#8 0xFD#8 0x24#8 0x0203#16 5 (none) [(0x0400, 0x5A#8)] = true := by decide

/-- 95_test_vectors.md A9. -/
theorem test_a9_opb9 :
    ran (start 0x0200#16 0x00#8 0x00#8 0x02#8 0xFD#8 0x24#8 [(0x0001, 0x42#8), (0x0200, 0xB9#8), (0x0201, 0xFF#8), (0x0202, 0xFF#8)])
      0x42#8 0x00#8 0x02#8 0xFD#8 0x24#8 0x0203#16 5 (none) [] = true := by decide

/-- 95_test_vectors.md A10. -/
theorem test_a10_opa1 :
    ran (start 0x0200#16 0x00#8 0x04#8 0x00#8 0xFD#8 0x24#8 [(0x0025, 0x03#8), (0x0200, 0xA1#8), (0x0201, 0x20#8), (0x0300, 0xC3#8)])
      0xC3#8 0x04#8 0x00#8 0xFD#8 0xA4#8 0x0202#16 6 (none) [] = true := by decide

/-- 95_test_vectors.md A11. -/
theorem test_a11_opa1 :
    ran (start 0x0200#16 0x00#8 0x00#8 0x00#8 0xFD#8 0x24#8 [(0x0000, 0x03#8), (0x00FF, 0x34#8), (0x0100, 0x07#8), (0x0200, 0xA1#8), (0x0201, 0xFF#8), (0x0334, 0x11#8)])
      0x11#8 0x00#8 0x00#8 0xFD#8 0x24#8 0x0202#16 6 (none) [] = true := by decide

/-- 95_test_vectors.md A12. -/
theorem test_a12_opb1 :
    ran (start 0x0200#16 0x00#8 0x00#8 0x10#8 0xFD#8 0x24#8 [(0x0041, 0x03#8), (0x0200, 0xB1#8), (0x0201, 0x40#8), (0x0310, 0x7F#8)])
      0x7F#8 0x00#8 0x10#8 0xFD#8 0x24#8 0x0202#16 5 (none) [] = true := by decide

/-- 95_test_vectors.md A13. -/
theorem test_a13_opb1 :
    ran (start 0x0200#16 0x00#8 0x00#8 0x01#8 0xFD#8 0x24#8 [(0x0040, 0xFF#8), (0x0041, 0x03#8), (0x0200, 0xB1#8), (0x0201, 0x40#8), (0x0400, 0x80#8)])
      0x80#8 0x00#8 0x01#8 0xFD#8 0xA4#8 0x0202#16 6 (none) [] = true := by decide

/-- 95_test_vectors.md A15. -/
theorem test_a15_op91 :
    ran (start 0x0200#16 0xAB#8 0x00#8 0x01#8 0xFD#8 0x24#8 [(0x0040, 0xFF#8), (0x0041, 0x03#8), (0x0200, 0x91#8), (0x0201, 0x40#8)])
      0xAB#8 0x00#8 0x01#8 0xFD#8 0x24#8 0x0202#16 6 (none) [(0x0400, 0xAB#8)] = true := by decide

/-- 95_test_vectors.md A16. -/
theorem test_a16_op6c :
    ran (start 0x0200#16 0x00#8 0x00#8 0x00#8 0xFD#8 0x24#8 [(0x0200, 0x6C#8), (0x0201, 0x20#8), (0x0202, 0x03#8), (0x0320, 0x34#8), (0x0321, 0x12#8)])
      0x00#8 0x00#8 0x00#8 0xFD#8 0x24#8 0x1234#16 5 (none) [] = true := by decide

/-- 95_test_vectors.md A17. -/
theorem test_a17_op6c :
    ran (start 0x0200#16 0x00#8 0x00#8 0x00#8 0xFD#8 0x24#8 [(0x0200, 0x6C#8), (0x0201, 0xFF#8), (0x0202, 0x03#8), (0x0300, 0x12#8), (0x03FF, 0x34#8), (0x0400, 0x56#8)])
      0x00#8 0x00#8 0x00#8 0xFD#8 0x24#8 0x1234#16 5 (none) [] = true := by decide

/-- 95_test_vectors.md L1. -/
theorem test_l1_op96 :
    ran (start 0x0200#16 0x00#8 0x3C#8 0x05#8 0xFD#8 0x24#8 [(0x0200, 0x96#8), (0x0201, 0x10#8)])
      0x00#8 0x3C#8 0x05#8 0xFD#8 0x24#8 0x0202#16 4 (none) [(0x0015, 0x3C#8)] = true := by decide

/-- 95_test_vectors.md L2. -/
theorem test_l2_op94 :
    ran (start 0x0200#16 0x00#8 0x01#8 0x00#8 0xFD#8 0xA4#8 [(0x0200, 0x94#8), (0x0201, 0x10#8)])
      0x00#8 0x01#8 0x00#8 0xFD#8 0xA4#8 0x0202#16 4 (none) [(0x0011, 0x00#8)] = true := by decide

/-- 95_test_vectors.md L3. -/
theorem test_l3_opaa :
    ran (start 0x0200#16 0x00#8 0x55#8 0x00#8 0xFD#8 0x24#8 [(0x0200, 0xAA#8)])
      0x00#8 0x00#8 0x00#8 0xFD#8 0x26#8 0x0201#16 2 (none) [] = true := by decide

/-- 95_test_vectors.md L4. -/
theorem test_l4_opa8 :
    ran (start 0x0200#16 0xF0#8 0x00#8 0x00#8 0xFD#8 0x24#8 [(0x0200, 0xA8#8)])
      0xF0#8 0x00#8 0xF0#8 0xFD#8 0xA4#8 0x0201#16 2 (none) [] = true := by decide

/-- 95_test_vectors.md L5. -/
theorem test_l5_op8a :
    ran (start 0x0200#16 0x80#8 0x7F#8 0x00#8 0xFD#8 0xA4#8 [(0x0200, 0x8A#8)])
      0x7F#8 0x7F#8 0x00#8 0xFD#8 0x24#8 0x0201#16 2 (none) [] = true := by decide

/-- 95_test_vectors.md L6. -/
theorem test_l6_op98 :
    ran (start 0x0200#16 0x01#8 0x00#8 0x00#8 0xFD#8 0x24#8 [(0x0200, 0x98#8)])
      0x00#8 0x00#8 0x00#8 0xFD#8 0x26#8 0x0201#16 2 (none) [] = true := by decide

/-- 95_test_vectors.md L7. -/
theorem test_l7_opba :
    ran (start 0x0200#16 0x00#8 0x00#8 0x00#8 0xFD#8 0x24#8 [(0x0200, 0xBA#8)])
      0x00#8 0xFD#8 0x00#8 0xFD#8 0xA4#8 0x0201#16 2 (none) [] = true := by decide

/-- 95_test_vectors.md L8. -/
theorem test_l8_op9a :
    ran (start 0x0200#16 0x00#8 0x00#8 0x00#8 0xFD#8 0x24#8 [(0x0200, 0x9A#8)])
      0x00#8 0x00#8 0x00#8 0x00#8 0x24#8 0x0201#16 2 (none) [] = true := by decide

/-- 95_test_vectors.md L9. -/
theorem test_l9_op48 :
    ran (start 0x0200#16 0x5A#8 0x00#8 0x00#8 0xFD#8 0x24#8 [(0x0200, 0x48#8)])
      0x5A#8 0x00#8 0x00#8 0xFC#8 0x24#8 0x0201#16 3 (none) [(0x01FD, 0x5A#8)] = true := by decide

/-- 95_test_vectors.md L10. -/
theorem test_l10_op08 :
    ran (start 0x0200#16 0x00#8 0x00#8 0x00#8 0xFD#8 0x24#8 [(0x0200, 0x08#8)])
      0x00#8 0x00#8 0x00#8 0xFC#8 0x24#8 0x0201#16 3 (none) [(0x01FD, 0x34#8)] = true := by decide

/-- 95_test_vectors.md L11. -/
theorem test_l11_op08 :
    ran (start 0x0200#16 0x00#8 0x00#8 0x00#8 0x01#8 0xE5#8 [(0x0200, 0x08#8)])
      0x00#8 0x00#8 0x00#8 0x00#8 0xE5#8 0x0201#16 3 (none) [(0x0101, 0xF5#8)] = true := by decide

/-- 95_test_vectors.md L12. -/
theorem test_l12_op68 :
    ran (start 0x0200#16 0x00#8 0x00#8 0x00#8 0xFC#8 0x24#8 [(0x0200, 0x68#8)])
      0x00#8 0x00#8 0x00#8 0xFD#8 0x26#8 0x0201#16 4 (none) [] = true := by decide

/-- 95_test_vectors.md L13. -/
theorem test_l13_op68 :
    ran (start 0x0200#16 0x00#8 0x00#8 0x00#8 0xFF#8 0x24#8 [(0x0100, 0x99#8), (0x0200, 0x68#8)])
      0x99#8 0x00#8 0x00#8 0x00#8 0xA4#8 0x0201#16 4 (none) [] = true := by decide

/-- 95_test_vectors.md L14. -/
theorem test_l14_op28 :
    ran (start 0x0200#16 0x00#8 0x00#8 0x00#8 0xFC#8 0x24#8 [(0x01FD, 0xFF#8), (0x0200, 0x28#8)])
      0x00#8 0x00#8 0x00#8 0xFD#8 0xEF#8 0x0201#16 4 (none) [] = true := by decide

/-- 95_test_vectors.md L15. -/
theorem test_l15_op28 :
    ran (start 0x0200#16 0x00#8 0x00#8 0x00#8 0xFC#8 0xE7#8 [(0x0200, 0x28#8)])
      0x00#8 0x00#8 0x00#8 0xFD#8 0x20#8 0x0201#16 4 (none) [] = true := by decide

/-- 95_test_vectors.md L16. -/
theorem test_l16_op48 :
    ran (start 0x0200#16 0x11#8 0x00#8 0x00#8 0x00#8 0x24#8 [(0x0200, 0x48#8)])
      0x11#8 0x00#8 0x00#8 0x00#8 0x24#8 0x0201#16 0 (some (.stackBoundary (.instr 0x0200#16))) [(0x0100, 0x00#8)] = true := by decide

/-- 95_test_vectors.md M1. -/
theorem test_m1_op69 :
    ran (start 0x0200#16 0x50#8 0x00#8 0x00#8 0xFD#8 0x24#8 [(0x0200, 0x69#8), (0x0201, 0x50#8)])
      0xA0#8 0x00#8 0x00#8 0xFD#8 0xE4#8 0x0202#16 2 (none) [] = true := by decide

/-- 95_test_vectors.md M2. -/
theorem test_m2_op69 :
    ran (start 0x0200#16 0x50#8 0x00#8 0x00#8 0xFD#8 0x24#8 [(0x0200, 0x69#8), (0x0201, 0xD0#8)])
      0x20#8 0x00#8 0x00#8 0xFD#8 0x25#8 0x0202#16 2 (none) [] = true := by decide

/-- 95_test_vectors.md M7. -/
theorem test_m7_ope9 :
    ran (start 0x0200#16 0x50#8 0x00#8 0x00#8 0xFD#8 0x25#8 [(0x0200, 0xE9#8), (0x0201, 0xF0#8)])
      0x60#8 0x00#8 0x00#8 0xFD#8 0x24#8 0x0202#16 2 (none) [] = true := by decide

/-- 95_test_vectors.md M8. -/
theorem test_m8_ope9 :
    ran (start 0x0200#16 0x50#8 0x00#8 0x00#8 0xFD#8 0x25#8 [(0x0200, 0xE9#8), (0x0201, 0xB0#8)])
      0xA0#8 0x00#8 0x00#8 0xFD#8 0xE4#8 0x0202#16 2 (none) [] = true := by decide

/-- 95_test_vectors.md M12. -/
theorem test_m12_op29 :
    ran (start 0x0200#16 0xF0#8 0x00#8 0x00#8 0xFD#8 0x24#8 [(0x0200, 0x29#8), (0x0201, 0x0F#8)])
      0x00#8 0x00#8 0x00#8 0xFD#8 0x26#8 0x0202#16 2 (none) [] = true := by decide

/-- 95_test_vectors.md M13. -/
theorem test_m13_op09 :
    ran (start 0x0200#16 0x01#8 0x00#8 0x00#8 0xFD#8 0x24#8 [(0x0200, 0x09#8), (0x0201, 0x80#8)])
      0x81#8 0x00#8 0x00#8 0xFD#8 0xA4#8 0x0202#16 2 (none) [] = true := by decide

/-- 95_test_vectors.md M14. -/
theorem test_m14_op49 :
    ran (start 0x0200#16 0xFF#8 0x00#8 0x00#8 0xFD#8 0x24#8 [(0x0200, 0x49#8), (0x0201, 0xFF#8)])
      0x00#8 0x00#8 0x00#8 0xFD#8 0x26#8 0x0202#16 2 (none) [] = true := by decide

/-- 95_test_vectors.md M15. -/
theorem test_m15_opc9 :
    ran (start 0x0200#16 0x40#8 0x00#8 0x00#8 0xFD#8 0x24#8 [(0x0200, 0xC9#8), (0x0201, 0x40#8)])
      0x40#8 0x00#8 0x00#8 0xFD#8 0x27#8 0x0202#16 2 (none) [] = true := by decide

/-- 95_test_vectors.md M16. -/
theorem test_m16_opc9 :
    ran (start 0x0200#16 0x40#8 0x00#8 0x00#8 0xFD#8 0x24#8 [(0x0200, 0xC9#8), (0x0201, 0x41#8)])
      0x40#8 0x00#8 0x00#8 0xFD#8 0xA4#8 0x0202#16 2 (none) [] = true := by decide

/-- 95_test_vectors.md M19. -/
theorem test_m19_ope0 :
    ran (start 0x0200#16 0x00#8 0x20#8 0x00#8 0xFD#8 0x24#8 [(0x0200, 0xE0#8), (0x0201, 0x10#8)])
      0x00#8 0x20#8 0x00#8 0xFD#8 0x25#8 0x0202#16 2 (none) [] = true := by decide

/-- 95_test_vectors.md M20. -/
theorem test_m20_opc4 :
    ran (start 0x0200#16 0x00#8 0x00#8 0x00#8 0xFD#8 0x24#8 [(0x0010, 0x01#8), (0x0200, 0xC4#8), (0x0201, 0x10#8)])
      0x00#8 0x00#8 0x00#8 0xFD#8 0xA4#8 0x0202#16 3 (none) [] = true := by decide

/-- 95_test_vectors.md M21. -/
theorem test_m21_op24 :
    ran (start 0x0200#16 0x01#8 0x00#8 0x00#8 0xFD#8 0x24#8 [(0x0010, 0xC0#8), (0x0200, 0x24#8), (0x0201, 0x10#8)])
      0x01#8 0x00#8 0x00#8 0xFD#8 0xE6#8 0x0202#16 3 (none) [] = true := by decide

/-- 95_test_vectors.md M22. -/
theorem test_m22_op2c :
    ran (start 0x0200#16 0xFF#8 0x00#8 0x00#8 0xFD#8 0xE6#8 [(0x0200, 0x2C#8), (0x0202, 0x03#8), (0x0300, 0x3F#8)])
      0xFF#8 0x00#8 0x00#8 0xFD#8 0x24#8 0x0203#16 4 (none) [] = true := by decide

/-- 95_test_vectors.md M23. -/
theorem test_m23_ope6 :
    ran (start 0x0200#16 0x00#8 0x00#8 0x00#8 0xFD#8 0x24#8 [(0x0010, 0xFF#8), (0x0200, 0xE6#8), (0x0201, 0x10#8)])
      0x00#8 0x00#8 0x00#8 0xFD#8 0x26#8 0x0202#16 5 (none) [(0x0010, 0x00#8)] = true := by decide

/-- 95_test_vectors.md M24. -/
theorem test_m24_opfe :
    ran (start 0x0200#16 0x00#8 0x01#8 0x00#8 0xFD#8 0x24#8 [(0x0200, 0xFE#8), (0x0201, 0xFF#8), (0x0202, 0x02#8), (0x0300, 0x7F#8)])
      0x00#8 0x01#8 0x00#8 0xFD#8 0xA4#8 0x0203#16 7 (none) [(0x0300, 0x80#8)] = true := by decide

/-- 95_test_vectors.md M25. -/
theorem test_m25_opc6 :
    ran (start 0x0200#16 0x00#8 0x00#8 0x00#8 0xFD#8 0x24#8 [(0x0200, 0xC6#8), (0x0201, 0x10#8)])
      0x00#8 0x00#8 0x00#8 0xFD#8 0xA4#8 0x0202#16 5 (none) [(0x0010, 0xFF#8)] = true := by decide

/-- 95_test_vectors.md M26. -/
theorem test_m26_opd6 :
    ran (start 0x0200#16 0x00#8 0x01#8 0x00#8 0xFD#8 0x24#8 [(0x0011, 0x01#8), (0x0200, 0xD6#8), (0x0201, 0x10#8)])
      0x00#8 0x01#8 0x00#8 0xFD#8 0x26#8 0x0202#16 6 (none) [(0x0011, 0x00#8)] = true := by decide

/-- 95_test_vectors.md M27. -/
theorem test_m27_ope8 :
    ran (start 0x0200#16 0x00#8 0xFF#8 0x00#8 0xFD#8 0x24#8 [(0x0200, 0xE8#8)])
      0x00#8 0x00#8 0x00#8 0xFD#8 0x26#8 0x0201#16 2 (none) [] = true := by decide

/-- 95_test_vectors.md M28. -/
theorem test_m28_opc8 :
    ran (start 0x0200#16 0x00#8 0x00#8 0x7F#8 0xFD#8 0x24#8 [(0x0200, 0xC8#8)])
      0x00#8 0x00#8 0x80#8 0xFD#8 0xA4#8 0x0201#16 2 (none) [] = true := by decide

/-- 95_test_vectors.md M29. -/
theorem test_m29_opca :
    ran (start 0x0200#16 0x00#8 0x00#8 0x00#8 0xFD#8 0x24#8 [(0x0200, 0xCA#8)])
      0x00#8 0xFF#8 0x00#8 0xFD#8 0xA4#8 0x0201#16 2 (none) [] = true := by decide

/-- 95_test_vectors.md M30. -/
theorem test_m30_op88 :
    ran (start 0x0200#16 0x00#8 0x00#8 0x01#8 0xFD#8 0x24#8 [(0x0200, 0x88#8)])
      0x00#8 0x00#8 0x00#8 0xFD#8 0x26#8 0x0201#16 2 (none) [] = true := by decide

/-- 95_test_vectors.md S1. -/
theorem test_s1_op0a :
    ran (start 0x0200#16 0x81#8 0x00#8 0x00#8 0xFD#8 0x24#8 [(0x0200, 0x0A#8)])
      0x02#8 0x00#8 0x00#8 0xFD#8 0x25#8 0x0201#16 2 (none) [] = true := by decide

/-- 95_test_vectors.md S2. -/
theorem test_s2_op0a :
    ran (start 0x0200#16 0x40#8 0x00#8 0x00#8 0xFD#8 0x25#8 [(0x0200, 0x0A#8)])
      0x80#8 0x00#8 0x00#8 0xFD#8 0xA4#8 0x0201#16 2 (none) [] = true := by decide

/-- 95_test_vectors.md S3. -/
theorem test_s3_op06 :
    ran (start 0x0200#16 0x00#8 0x00#8 0x00#8 0xFD#8 0x24#8 [(0x0010, 0x80#8), (0x0200, 0x06#8), (0x0201, 0x10#8)])
      0x00#8 0x00#8 0x00#8 0xFD#8 0x27#8 0x0202#16 5 (none) [(0x0010, 0x00#8)] = true := by decide

/-- 95_test_vectors.md S4. -/
theorem test_s4_op4a :
    ran (start 0x0200#16 0x01#8 0x00#8 0x00#8 0xFD#8 0x24#8 [(0x0200, 0x4A#8)])
      0x00#8 0x00#8 0x00#8 0xFD#8 0x27#8 0x0201#16 2 (none) [] = true := by decide

/-- 95_test_vectors.md S5. -/
theorem test_s5_op4e :
    ran (start 0x0200#16 0x00#8 0x00#8 0x00#8 0xFD#8 0xA5#8 [(0x0200, 0x4E#8), (0x0202, 0x03#8), (0x0300, 0xFE#8)])
      0x00#8 0x00#8 0x00#8 0xFD#8 0x24#8 0x0203#16 6 (none) [(0x0300, 0x7F#8)] = true := by decide

/-- 95_test_vectors.md S6. -/
theorem test_s6_op2a :
    ran (start 0x0200#16 0x80#8 0x00#8 0x00#8 0xFD#8 0x25#8 [(0x0200, 0x2A#8)])
      0x01#8 0x00#8 0x00#8 0xFD#8 0x25#8 0x0201#16 2 (none) [] = true := by decide

/-- 95_test_vectors.md S7. -/
theorem test_s7_op26 :
    ran (start 0x0200#16 0x00#8 0x00#8 0x00#8 0xFD#8 0x24#8 [(0x0010, 0x40#8), (0x0200, 0x26#8), (0x0201, 0x10#8)])
      0x00#8 0x00#8 0x00#8 0xFD#8 0xA4#8 0x0202#16 5 (none) [(0x0010, 0x80#8)] = true := by decide

/-- 95_test_vectors.md S8. -/
theorem test_s8_op6a :
    ran (start 0x0200#16 0x01#8 0x00#8 0x00#8 0xFD#8 0x25#8 [(0x0200, 0x6A#8)])
      0x80#8 0x00#8 0x00#8 0xFD#8 0xA5#8 0x0201#16 2 (none) [] = true := by decide

/-- 95_test_vectors.md S9. -/
theorem test_s9_op6a :
    ran (start 0x0200#16 0x01#8 0x00#8 0x00#8 0xFD#8 0x24#8 [(0x0200, 0x6A#8)])
      0x00#8 0x00#8 0x00#8 0xFD#8 0x27#8 0x0201#16 2 (none) [] = true := by decide

/-- 95_test_vectors.md S10. -/
theorem test_s10_op76 :
    ran (start 0x0200#16 0x00#8 0x02#8 0x00#8 0xFD#8 0x25#8 [(0x0200, 0x76#8), (0x0201, 0x10#8)])
      0x00#8 0x02#8 0x00#8 0xFD#8 0xA4#8 0x0202#16 6 (none) [(0x0012, 0x80#8)] = true := by decide

/-- 95_test_vectors.md S11. -/
theorem test_s11_op3e :
    ran (start 0x0200#16 0x00#8 0x01#8 0x00#8 0xFD#8 0x24#8 [(0x0200, 0x3E#8), (0x0201, 0xFF#8), (0x0202, 0x02#8), (0x0300, 0xFF#8)])
      0x00#8 0x01#8 0x00#8 0xFD#8 0xA5#8 0x0203#16 7 (none) [(0x0300, 0xFE#8)] = true := by decide

/-- 95_test_vectors.md B1. -/
theorem test_b1_op4c :
    ran (start 0x0200#16 0x00#8 0x00#8 0x00#8 0xFD#8 0x24#8 [(0x0200, 0x4C#8), (0x0201, 0x34#8), (0x0202, 0x12#8)])
      0x00#8 0x00#8 0x00#8 0xFD#8 0x24#8 0x1234#16 3 (none) [] = true := by decide

/-- 95_test_vectors.md B2. -/
theorem test_b2_op20 :
    ran (start 0x0200#16 0x00#8 0x00#8 0x00#8 0xFD#8 0x24#8 [(0x0200, 0x20#8), (0x0202, 0x03#8)])
      0x00#8 0x00#8 0x00#8 0xFB#8 0x24#8 0x0300#16 6 (none) [(0x01FD, 0x02#8), (0x01FC, 0x02#8)] = true := by decide

/-- 95_test_vectors.md B3. -/
theorem test_b3_op20 :
    ran (start 0x0200#16 0x00#8 0x00#8 0x00#8 0x01#8 0x24#8 [(0x0200, 0x20#8), (0x0202, 0x03#8)])
      0x00#8 0x00#8 0x00#8 0x00#8 0x24#8 0x0203#16 0 (some (.stackBoundary (.instr 0x0200#16))) [(0x0101, 0x02#8), (0x0100, 0x00#8)] = true := by decide

/-- 95_test_vectors.md B4. -/
theorem test_b4_op60 :
    ran (start 0x0200#16 0x00#8 0x00#8 0x00#8 0xFB#8 0x24#8 [(0x01FC, 0x02#8), (0x01FD, 0x02#8), (0x0200, 0x60#8)])
      0x00#8 0x00#8 0x00#8 0xFD#8 0x24#8 0x0203#16 6 (none) [] = true := by decide

/-- 95_test_vectors.md B5. -/
theorem test_b5_op60 :
    ran (start 0x0200#16 0x00#8 0x00#8 0x00#8 0xFB#8 0x24#8 [(0x01FC, 0xFF#8), (0x01FD, 0xFF#8), (0x0200, 0x60#8)])
      0x00#8 0x00#8 0x00#8 0xFD#8 0x24#8 0x0000#16 6 (none) [] = true := by decide

/-- 95_test_vectors.md B6. -/
theorem test_b6_opd0 :
    ran (start 0x0200#16 0x00#8 0x00#8 0x00#8 0xFD#8 0x26#8 [(0x0200, 0xD0#8), (0x0201, 0x10#8)])
      0x00#8 0x00#8 0x00#8 0xFD#8 0x26#8 0x0202#16 2 (none) [] = true := by decide

/-- 95_test_vectors.md B7. -/
theorem test_b7_opd0 :
    ran (start 0x0200#16 0x00#8 0x00#8 0x00#8 0xFD#8 0x24#8 [(0x0200, 0xD0#8), (0x0201, 0x10#8)])
      0x00#8 0x00#8 0x00#8 0xFD#8 0x24#8 0x0212#16 3 (none) [] = true := by decide

/-- 95_test_vectors.md B8. -/
theorem test_b8_opf0 :
    ran (start 0x0200#16 0x00#8 0x00#8 0x00#8 0xFD#8 0x26#8 [(0x0200, 0xF0#8), (0x0201, 0xFE#8)])
      0x00#8 0x00#8 0x00#8 0xFD#8 0x26#8 0x0200#16 3 (none) [] = true := by decide

/-- 95_test_vectors.md B9. -/
theorem test_b9_opf0 :
    ran (start 0x0300#16 0x00#8 0x00#8 0x00#8 0xFD#8 0x26#8 [(0x0300, 0xF0#8), (0x0301, 0xFC#8)])
      0x00#8 0x00#8 0x00#8 0xFD#8 0x26#8 0x02FE#16 4 (none) [] = true := by decide

/-- 95_test_vectors.md B10. -/
theorem test_b10_op90 :
    ran (start 0x02F0#16 0x00#8 0x00#8 0x00#8 0xFD#8 0x24#8 [(0x02F0, 0x90#8), (0x02F1, 0x7F#8)])
      0x00#8 0x00#8 0x00#8 0xFD#8 0x24#8 0x0371#16 4 (none) [] = true := by decide

/-- 95_test_vectors.md B11. -/
theorem test_b11_opb0 :
    ran (start 0x02F0#16 0x00#8 0x00#8 0x00#8 0xFD#8 0x24#8 [(0x02F0, 0xB0#8), (0x02F1, 0x7F#8)])
      0x00#8 0x00#8 0x00#8 0xFD#8 0x24#8 0x02F2#16 2 (none) [] = true := by decide

/-- 95_test_vectors.md B12. -/
theorem test_b12_opb0 :
    ran (start 0x0200#16 0x00#8 0x00#8 0x00#8 0xFD#8 0x25#8 [(0x0200, 0xB0#8)])
      0x00#8 0x00#8 0x00#8 0xFD#8 0x25#8 0x0202#16 3 (none) [] = true := by decide

/-- 95_test_vectors.md B13. -/
theorem test_b13_op30 :
    ran (start 0x0200#16 0x00#8 0x00#8 0x00#8 0xFD#8 0xA4#8 [(0x0200, 0x30#8), (0x0201, 0x02#8)])
      0x00#8 0x00#8 0x00#8 0xFD#8 0xA4#8 0x0204#16 3 (none) [] = true := by decide

/-- 95_test_vectors.md B14. -/
theorem test_b14_op10 :
    ran (start 0x0280#16 0x00#8 0x00#8 0x00#8 0xFD#8 0x24#8 [(0x0280, 0x10#8), (0x0281, 0x80#8)])
      0x00#8 0x00#8 0x00#8 0xFD#8 0x24#8 0x0202#16 3 (none) [] = true := by decide

/-- 95_test_vectors.md B15. -/
theorem test_b15_op50 :
    ran (start 0x0200#16 0x00#8 0x00#8 0x00#8 0xFD#8 0x24#8 [(0x0200, 0x50#8), (0x0201, 0x05#8)])
      0x00#8 0x00#8 0x00#8 0xFD#8 0x24#8 0x0207#16 3 (none) [] = true := by decide

/-- 95_test_vectors.md B16. -/
theorem test_b16_op70 :
    ran (start 0x0200#16 0x00#8 0x00#8 0x00#8 0xFD#8 0x64#8 [(0x0200, 0x70#8), (0x0201, 0x05#8)])
      0x00#8 0x00#8 0x00#8 0xFD#8 0x64#8 0x0207#16 3 (none) [] = true := by decide

/-- 95_test_vectors.md F1. -/
theorem test_f1_op18 :
    ran (start 0x0200#16 0x00#8 0x00#8 0x00#8 0xFD#8 0xFF#8 [(0x0200, 0x18#8)])
      0x00#8 0x00#8 0x00#8 0xFD#8 0xFE#8 0x0201#16 2 (none) [] = true := by decide

/-- 95_test_vectors.md F2. -/
theorem test_f2_op38 :
    ran (start 0x0200#16 0x00#8 0x00#8 0x00#8 0xFD#8 0x24#8 [(0x0200, 0x38#8)])
      0x00#8 0x00#8 0x00#8 0xFD#8 0x25#8 0x0201#16 2 (none) [] = true := by decide

/-- 95_test_vectors.md F3. -/
theorem test_f3_op58 :
    ran (start 0x0200#16 0x00#8 0x00#8 0x00#8 0xFD#8 0x24#8 [(0x0200, 0x58#8)])
      0x00#8 0x00#8 0x00#8 0xFD#8 0x20#8 0x0201#16 2 (none) [] = true := by decide

/-- 95_test_vectors.md F4. -/
theorem test_f4_op78 :
    ran (start 0x0200#16 0x00#8 0x00#8 0x00#8 0xFD#8 0x20#8 [(0x0200, 0x78#8)])
      0x00#8 0x00#8 0x00#8 0xFD#8 0x24#8 0x0201#16 2 (none) [] = true := by decide

/-- 95_test_vectors.md F5. -/
theorem test_f5_opb8 :
    ran (start 0x0200#16 0x00#8 0x00#8 0x00#8 0xFD#8 0x64#8 [(0x0200, 0xB8#8)])
      0x00#8 0x00#8 0x00#8 0xFD#8 0x24#8 0x0201#16 2 (none) [] = true := by decide

/-- 95_test_vectors.md F6. -/
theorem test_f6_opd8 :
    ran (start 0x0200#16 0x00#8 0x00#8 0x00#8 0xFD#8 0x2C#8 [(0x0200, 0xD8#8)])
      0x00#8 0x00#8 0x00#8 0xFD#8 0x24#8 0x0201#16 2 (none) [] = true := by decide

/-- 95_test_vectors.md F7. -/
theorem test_f7_opf8 :
    ran (start 0x0200#16 0x00#8 0x00#8 0x00#8 0xFD#8 0x24#8 [(0x0200, 0xF8#8)])
      0x00#8 0x00#8 0x00#8 0xFD#8 0x2C#8 0x0201#16 2 (none) [] = true := by decide

/-- 95_test_vectors.md F8. -/
theorem test_f8_opea :
    ran (start 0x0200#16 0x00#8 0x00#8 0x00#8 0xFD#8 0xE5#8 [(0x0200, 0xEA#8)])
      0x00#8 0x00#8 0x00#8 0xFD#8 0xE5#8 0x0201#16 2 (none) [] = true := by decide

/-- 95_test_vectors.md F9. -/
theorem test_f9_op00 :
    ran (start 0x0200#16 0x00#8 0x00#8 0x00#8 0xFD#8 0x24#8 [(0x0201, 0xFF#8)])
      0x00#8 0x00#8 0x00#8 0xFA#8 0x24#8 0x9000#16 7 (none) [(0x01FD, 0x02#8), (0x01FC, 0x02#8), (0x01FB, 0x34#8)] = true := by decide

/-- 95_test_vectors.md F10. -/
theorem test_f10_op00 :
    ran (start 0x0200#16 0x00#8 0x00#8 0x00#8 0xFD#8 0xE1#8 [(0x0201, 0xFF#8)])
      0x00#8 0x00#8 0x00#8 0xFA#8 0xE5#8 0x9000#16 7 (none) [(0x01FD, 0x02#8), (0x01FC, 0x02#8), (0x01FB, 0xF1#8)] = true := by decide

/-- 95_test_vectors.md F11. -/
theorem test_f11_op40 :
    ran (start 0x0200#16 0x00#8 0x00#8 0x00#8 0xFA#8 0x24#8 [(0x01FB, 0xFF#8), (0x01FC, 0x34#8), (0x01FD, 0x12#8), (0x0200, 0x40#8)])
      0x00#8 0x00#8 0x00#8 0xFD#8 0xEF#8 0x1234#16 6 (none) [] = true := by decide

/-- 95_test_vectors.md F12. -/
theorem test_f12_op40 :
    ran (start 0x0200#16 0x00#8 0x00#8 0x00#8 0xFA#8 0xE7#8 [(0x01FD, 0x80#8), (0x0200, 0x40#8)])
      0x00#8 0x00#8 0x00#8 0xFD#8 0x20#8 0x8000#16 6 (none) [] = true := by decide

/-- 95_test_vectors.md F13. -/
theorem test_f13_op02 :
    ran (start 0x0200#16 0x00#8 0x00#8 0x00#8 0xFD#8 0x24#8 [(0x0200, 0x02#8)])
      0x00#8 0x00#8 0x00#8 0xFD#8 0x24#8 0x0201#16 0 (some (.illegalOpcode 0x02#8 0x0200#16)) [] = true := by decide

/-- 95_test_vectors.md F14. -/
theorem test_f14_opeb :
    ran (start 0x0200#16 0x00#8 0x00#8 0x00#8 0xFD#8 0x24#8 [(0x0200, 0xEB#8), (0x0201, 0x01#8)])
      0x00#8 0x00#8 0x00#8 0xFD#8 0x24#8 0x0201#16 0 (some (.illegalOpcode 0xEB#8 0x0200#16)) [] = true := by decide

/-- 95_test_vectors.md F15. -/
theorem test_f15_op1a :
    ran (start 0x0200#16 0x00#8 0x00#8 0x00#8 0xFD#8 0x24#8 [(0x0200, 0x1A#8)])
      0x00#8 0x00#8 0x00#8 0xFD#8 0x24#8 0x0201#16 0 (some (.illegalOpcode 0x1A#8 0x0200#16)) [] = true := by decide


/-! The units, from spec/95_test_vectors.md sections 2.7 to 2.12. -/

/-- Writes in order. -/
def writes (s : State) : List (Word × Byte) → State
  | [] => s
  | (a, v) :: ws => writes (memWrite a v s) ws

/-- Reads in order: the bytes and the state after them. -/
def reads (s : State) : List Word → List Byte × State
  | [] => ([], s)
  | a :: as => let r := memRead a s; let q := reads r.2 as; (r.1 :: q.1, q.2)

def pressed : State := State.reset.setPads { State.reset.pads with buttons1 := 0x91#8, buttons2 := 0x02#8 }

/-- D6. -/
theorem test_d6_latch_and_shift :
    (reads (writes pressed [(0x4016#16, 0x01#8), (0x4016#16, 0x00#8)]) (List.replicate 10 0x4016#16)).1 =
      [0x41#8, 0x40#8, 0x40#8, 0x40#8, 0x41#8, 0x40#8, 0x40#8, 0x41#8, 0x41#8, 0x41#8] ∧
    (reads (writes pressed [(0x4016#16, 0x01#8), (0x4016#16, 0x00#8)]) (List.replicate 10 0x4017#16)).1 =
      [0x40#8, 0x41#8, 0x40#8, 0x40#8, 0x40#8, 0x40#8, 0x40#8, 0x40#8, 0x41#8, 0x41#8] := by decide

/-- D5, D7, D8: strobe held; no edge, no latch; only bit 0 counts. -/
theorem test_d5_strobe :
    (reads (writes pressed [(0x4016#16, 0x01#8)]) [0x4016#16, 0x4016#16, 0x4017#16]).1 = [0x41#8, 0x41#8, 0x40#8] ∧
    (writes pressed [(0x4016#16, 0x00#8)]).pads.shift1 = 0x00#8 ∧
    (writes pressed [(0x4016#16, 0x03#8), (0x4016#16, 0x02#8)]).pads.shift1 = 0x91#8 := by decide

/-- D1, D2, first slots: with odd `clk` the dummy phase ends; with even `clk` it goes on; then a read and a store. -/
theorem test_d2_dma_slots :
    (dmaSlot ((writes State.reset [(0x4014#16, 0x02#8)]).setClk 39)).dma = ⟨0x02#8, 0x00#8, 0x00#8, false, true⟩ ∧
    (dmaSlot ((writes State.reset [(0x4014#16, 0x02#8)]).setClk 30)).dma = ⟨0x02#8, 0x00#8, 0x00#8, true, true⟩ ∧
    (dmaSlot (((State.reset.setRam [(0x0200, 0xFF#8)]).setDma ⟨0x02#8, 0x00#8, 0x00#8, false, true⟩).setClk 42)).dma =
      ⟨0x02#8, 0x00#8, 0xFF#8, false, true⟩ := by decide

/-- D1, slots 15 and 525. -/
theorem test_d1_dma_store :
    (dmaSlot ((State.reset.setDma ⟨0x02#8, 0x00#8, 0xFF#8, false, true⟩).setClk 45)).ppu.oam = [(0, 0xFF#8)] ∧
    (dmaSlot ((State.reset.setDma ⟨0x02#8, 0xFF#8, 0x00#8, false, true⟩).setClk 1575)).dma =
      ⟨0x02#8, 0x00#8, 0x00#8, true, false⟩ := by decide

/-- D9, D10, D11. -/
theorem test_d10_ram_mirrors :
    (reads (writes State.reset [(0x0801#16, 0x5A#8)]) [0x0001#16, 0x1001#16, 0x1801#16, 0x5FFF#16, 0x2005#16]).1 =
      [0x5A#8, 0x5A#8, 0x5A#8, 0x00#8, 0x00#8] ∧
    writes State.reset [(0x3FFA#16, 0x5A#8)] = State.reset := by decide

/-- H1, H2, H3. -/
theorem test_h2_scroll :
    let s := writes State.reset [(0x2005#16, 0x7D#8), (0x2005#16, 0x5E#8)]
    s.ppu.fineX = 5#3 ∧ s.ppu.tram = 0x616F#15 ∧ s.ppu.latch = false ∧ s.ppu.vram = 0#15 ∧
    (writes s [(0x2000#16, 0x03#8)]).ppu.tram = 0x6D6F#15 := by decide

/-- H4, H5. -/
theorem test_h5_address :
    let s := writes State.reset [(0x2005#16, 0x7D#8), (0x2005#16, 0x5E#8), (0x2000#16, 0x03#8), (0x2006#16, 0xFF#8)]
    s.ppu.tram = 0x3F6F#15 ∧ s.ppu.latch = true ∧
    (writes s [(0x2006#16, 0x10#8)]).ppu.tram = 0x3F10#15 ∧ (writes s [(0x2006#16, 0x10#8)]).ppu.vram = 0x3F10#15 := by
  decide

/-- H7. -/
theorem test_h7_data_buffer :
    let s := State.reset.setPpu { State.reset.ppu with
      nt0 := [(0, 0xAA#8), (1, 0xBB#8), (32, 0xCC#8)], dataBuffer := 0x5F#8 }
    let r := reads (writes s [(0x2006#16, 0x20#8), (0x2006#16, 0x00#8)]) [0x2007#16, 0x2007#16, 0x2007#16]
    r.1 = [0x5F#8, 0xAA#8, 0xBB#8] ∧ r.2.ppu.vram = 0x2003#15 ∧ r.2.ppu.dataBuffer = 0x00#8 := by decide

/-- H9 to H12. -/
theorem test_h9_palette :
    let s := writes State.reset [(0x2006#16, 0x3F#8), (0x2006#16, 0x10#8), (0x2007#16, 0x2A#8), (0x2007#16, 0xFF#8)]
    s.ppu.pal = [(0, 0x2A#8), (0x11, 0xFF#8)] ∧ s.ppu.vram = 0x3F12#15 ∧
    (reads (writes s [(0x2006#16, 0x3F#8), (0x2006#16, 0x00#8)]) [0x2007#16]).1 = [0x2A#8] ∧
    (reads (writes s [(0x2006#16, 0x3F#8), (0x2006#16, 0x11#8)]) [0x2007#16]).1 = [0x3F#8] ∧
    (reads (writes s [(0x2001#16, 0x01#8), (0x2006#16, 0x3F#8), (0x2006#16, 0x11#8)]) [0x2007#16]).1 = [0x30#8] := by
  decide

/-- H13, H15. -/
theorem test_h15_status :
    (reads (State.reset.setPpu { State.reset.ppu with vram := 0x3FFF#15, control := 0x04#8 }) [0x2007#16]).2.ppu.vram =
      0x401F#15 ∧
    (reads (State.reset.setPpu { State.reset.ppu with status := 0xE0#8, dataBuffer := 0x5B#8, latch := true })
      [0x2002#16, 0x2002#16]).1 = [0xFB#8, 0x7B#8] := by decide

/-- H16. -/
theorem test_h16_oam :
    let s := writes State.reset [(0x2003#16, 0xFE#8), (0x2004#16, 0x11#8), (0x2004#16, 0x22#8), (0x2004#16, 0x33#8)]
    s.ppu.oam = [(0x00, 0x33#8), (0xFE, 0x11#8), (0xFF, 0x22#8)] ∧ s.ppu.oamAddr = 0x01#8 ∧
    (reads s [0x2004#16]).1 = [0x00#8] := by decide

/-- H18, four quarters in the four modes. -/
theorem test_h18_mirroring :
    ([0, 1, 2, 3].map (ntTable .vertical) = [0, 1, 0, 1]) ∧ ([0, 1, 2, 3].map (ntTable .horizontal) = [0, 0, 1, 1]) ∧
    ([0, 1, 2, 3].map (ntTable .singleLow) = [0, 0, 0, 0]) ∧ ([0, 1, 2, 3].map (ntTable .singleHigh) = [1, 1, 1, 1]) := by
  decide

/-- A powered-on block of a variant. -/
def board (m : MapperId) (prgBanks chrBanks : Nat) : State :=
  powerOn { Cartridge.blank with mapperId := m, prgBanks := prgBanks, chrBanks := chrBanks } State.reset

/-- The unreduced program offsets at four addresses. -/
def prgAt (s : State) (as : List Nat) : List Nat := as.map (mapPrg s.mapper s.cart.prgBanks)

/-- K1, K2. -/
theorem test_k2_nrom :
    prgAt (board .nrom 1 1) [0x8000, 0xBFFF, 0xC000, 0xFFFC] = [0x0000, 0x3FFF, 0x0000, 0x3FFC] ∧
    prgAt (board .nrom 2 1) [0x8000, 0xBFFF, 0xC000, 0xFFFC] = [0x0000, 0x3FFF, 0x4000, 0x7FFC] := by decide

/-- K3, K4. -/
theorem test_k3_mmc1 :
    let s := writes (board .mmc1 8 4) [(0x8000#16, 0x00#8), (0x8000#16, 0x01#8), (0x8000#16, 0x00#8),
      (0x8000#16, 0x01#8), (0x8000#16, 0x00#8)]
    let t := writes s [(0xE000#16, 0x01#8), (0xE000#16, 0x01#8), (0xE000#16, 0x00#8), (0xE000#16, 0x00#8),
      (0xE000#16, 0x00#8)]
    prgAt (board .mmc1 8 4) [0x8000, 0xC000, 0xFFFC] = [0x00000, 0x1C000, 0x1FFFC] ∧ s.mirror = .vertical ∧
    prgAt t [0x8000, 0xBFFF, 0xC000, 0xFFFC] = [0x00000, 0x03FFF, 0x0C000, 0x0FFFC] ∧
    prgAt (writes t [(0x8000#16, 0x80#8)]) [0x8000, 0xC000] = [0x0C000, 0x1C000] := by decide

/-- K6, K7 translations. -/
theorem test_k6_mmc1 :
    let r : Mmc1 := { shift := 0#5, shiftCount := 0, control := 0x13#5, chrBank0 := 3#5, chrBank1 := 4#5, prgBank := 5#5 }
    ([0x8000, 0xC000, 0xFFFF].map (mmc1Prg r 8) = [0x10000, 0x14000, 0x17FFF]) ∧
    ([0x0000, 0x0FFF, 0x1000, 0x1FFF].map (mmc1Chr r) = [0x03000, 0x03FFF, 0x04000, 0x04FFF]) ∧
    ([0x0000, 0x1000, 0x1FFF].map (mmc1Chr { r with control := 0x00#5 }) = [0x02000, 0x03000, 0x03FFF]) := by decide

/-- K8, K9, K10, K16. -/
theorem test_k8_selects :
    prgAt (writes (board .uxrom 8 0) [(0x8000#16, 0x35#8)]) [0x8000, 0xBFFF, 0xC000, 0xFFFC] =
      [0x14000, 0x17FFF, 0x1C000, 0x1FFFC] ∧
    prgOffset (writes (board .uxrom 2 0) [(0x8000#16, 0x05#8)]) 0x8000 = 0x4000 ∧
    (writes (board .cnrom 2 4) [(0x8000#16, 0x06#8)]).mapper = .cnrom 0x02#8 ∧
    (writes (board .gxrom 8 4) [(0x8000#16, 0x23#8)]).mapper = .gxrom 3#2 2#2 ∧
    prgAt (writes (board .gxrom 8 4) [(0x8000#16, 0x23#8)]) [0x8000, 0xFFFC] = [0x10000, 0x17FFC] := by decide

/-- K11, K12. -/
theorem test_k12_mmc3 :
    let s := writes (board .mmc3 8 16) ((List.zip [0#8, 1#8, 2#8, 3#8, 4#8, 5#8, 6#8, 7#8]
      [4#8, 6#8, 8#8, 9#8, 10#8, 11#8, 2#8, 3#8]).flatMap fun p => [(0x8000#16, p.1), (0x8001#16, p.2)])
    let t := writes s [(0x8000#16, 0xC0#8)]
    prgAt s [0x8000, 0xA000, 0xC000, 0xE000] = [0x04000, 0x06000, 0x1C000, 0x1E000] ∧
    [0x0000, 0x0400, 0x0800, 0x1000, 0x1C00].map (mapChr s.mapper) = [0x01000, 0x01400, 0x01800, 0x02000, 0x02C00] ∧
    prgAt t [0x8000, 0xA000, 0xC000, 0xE000] = [0x1C000, 0x06000, 0x04000, 0x1E000] ∧
    [0x0000, 0x0400, 0x0C00, 0x1000, 0x1C00].map (mapChr t.mapper) = [0x02000, 0x02400, 0x02C00, 0x01000, 0x01C00] := by
  decide

def counting : Mmc3 :=
  { target := 0#3, prgMode := false, chrInv := false, reg := List.replicate 8 0x00#8, mirror := false,
    irqLatch := 0x02#8, irqCounter := 0x00#8, irqEnable := true, irqActive := false }

/-- K15. -/
theorem test_k15_counter :
    (counting.tick.irqCounter, counting.tick.irqActive) = (2#8, false) ∧
    (counting.tick.tick.irqCounter, counting.tick.tick.irqActive) = (1#8, false) ∧
    (counting.tick.tick.tick.irqCounter, counting.tick.tick.tick.irqActive) = (0#8, true) ∧
    counting.tick.tick.tick.tick.irqCounter = 2#8 := by decide

/-- K17, K18. -/
theorem test_k17_ram_and_rom :
    (reads (writes State.reset [(0x6000#16, 0x77#8), (0x7FFF#16, 0x88#8)]) [0x7FFF#16, 0x6000#16]).1 = [0x88#8, 0x77#8] ∧
    writes State.reset [(0x2007#16, 0x55#8)] = State.reset.setPpu { State.reset.ppu with vram := 1#15 } := by decide

/-- A block with NMI vector 0x8010 and IRQ vector 0xE040. -/
def vectored (pc : Word) (sp p : Byte) : State :=
  (State.reset.setCart { Cartridge.blank with
    prg := [(0x3FFA, 0x10#8), (0x3FFB, 0x80#8), (0x3FFE, 0x40#8), (0x3FFF, 0xE0#8)] }).setCpu
    { Cpu.reset {} pc with sp := sp, p := p }

/-- X1. -/
theorem test_x1_nmi :
    let t := cpuNmi (vectored 0x8005#16 0xFD#8 0xA4#8)
    t.ram = [(0x01FB, 0xA4#8), (0x01FC, 0x05#8), (0x01FD, 0x80#8)] ∧ t.cpu.sp = 0xFA#8 ∧ t.cpu.p = 0xA4#8 ∧
    t.cpu.pc = 0x8010#16 ∧ t.cpu.cycles = 7 := by decide

/-- X2, X3, X4. -/
theorem test_x2_irq :
    let t := cpuIrq (vectored 0xE011#16 0xFD#8 0x20#8)
    t.ram = [(0x01FB, 0x20#8), (0x01FC, 0x11#8), (0x01FD, 0xE0#8)] ∧ t.cpu.p = 0x24#8 ∧ t.cpu.pc = 0xE040#16 ∧
    statusCanonical 0xFF#8 = 0xEF#8 ∧
    cpuIrq (vectored 0xE011#16 0xFD#8 0x24#8) = vectored 0xE011#16 0xFD#8 0x24#8 := by decide

/-- X6. -/
theorem test_x6_entry_boundary :
    let t := cpuNmi (vectored 0x8005#16 0x02#8 0x20#8)
    t.ram = [(0x0101, 0x05#8), (0x0102, 0x80#8)] ∧ t.cpu.sp = 0x00#8 ∧ t.cpu.p = 0x20#8 ∧ t.cpu.pc = 0x8005#16 ∧
    t.fatal = some (.stackBoundary .nmi) := by decide

/-- Z1: the reset vector, and the registers of the reset block. -/
theorem test_z1_reset :
    (powerOn { Cartridge.blank with prg := [(0x3FFD, 0x80#8)] } State.reset).cpu =
      { a := 0#8, x := 0#8, y := 0#8, sp := 0xFD#8, p := 0x24#8, pc := 0x8000#16, cycles := 7, opcode := 0#8,
        addrAbs := 0#16, addrRel := 0#16 } ∧
    (warmReset (writes (board .mmc1 2 1) [(0x8000#16, 0x01#8)])).mapper = Mapper.powerOn .mmc1 := by decide

/-- 49_mappers_cartridge.md R398, R399: headers that are refused. -/
theorem test_loader_refuses :
    loadImage [0x4E#8, 0x45#8, 0x53#8, 0x00#8] = .error .badSignature ∧
    loadImage [0x4E#8, 0x45#8, 0x53#8, 0x1A#8, 1#8, 1#8, 0x50#8, 0#8, 0#8, 0#8, 0#8, 0#8, 0#8, 0#8, 0#8, 0#8] =
      .error .unknownMapper := by decide

/-- 48_ppu_rendering.md R328, R329: the horizontal and vertical advance at their wraps. -/
theorem test_scroll_advance :
    nextColumn 0x001F#15 = 0x0400#15 ∧ nextRow 0x73A0#15 = 0x0800#15 ∧ nextRow 0x73E0#15 = 0x0000#15 ∧
    nextRow 0x0000#15 = 0x1000#15 := by decide

/-- 48_ppu_rendering.md R336, and R335 for an 8 x 16 sprite: row 9 of tile pair 0x03 lies in the lower tile of table 1. -/
theorem test_sprite_patterns :
    reverse8 0x16#8 = 0x68#8 ∧
    spriteAddr { State.reset.ppu with control := 0x20#8, scanline := 19 } ⟨10#8, 0x03#8, 0#8, 0#8, 0#8, 0#8⟩ =
      0x1031#14 := by decide

/-! Witnesses: for each statement with hypotheses, a state and operands that meet them all, each clause at its boundary. -/

/-- The program image with the bytes of an instruction at 0x8000, and a block about to fetch it in the slot at `clk`. -/
def fetching (clk : Nat) (code : List Host.Cell) : State :=
  ((State.reset.setCart { Cartridge.blank with prg := code }).setClk clk).setCpu
    { Cpu.reset {} 0x8000#16 with cycles := 0 }

/-- A block about to fetch LDA #$41. -/
def fetchLda : State := fetching 0 [(0, 0xA9#8), (1, 0x41#8)]

theorem witness_DecodeEncode :
    Instr.wellFormed (.illegal 0xFF#8) = true ∧ Instr.wellFormed (.jmpInd 0xFFFF#16) = true ∧
    Instr.wellFormed (.bne 0x80#8) = true := by decide

theorem witness_EncodeDecode : decode [0x6C#8, 0xFF#8, 0xFF#8, 0x00#8] = .ok (.jmpInd 0xFFFF#16, [0x00#8]) := by decide

/-- Complete and truncated lists of each length. -/
theorem witness_DecodeTotal :
    opLength 0xEA#8 ≤ ([] : List Byte).length + 1 ∧ opLength 0xA9#8 ≤ [0#8].length + 1 ∧
    opLength 0xAD#8 ≤ [0#8, 0#8].length + 1 ∧ ([] : List Byte).length + 1 < opLength 0xA9#8 ∧
    [0#8].length + 1 < opLength 0xAD#8 := by decide

theorem witness_StepRunsInstr : fetchLda.fetches ∧
    ∃ t, exec (.ldaImm 0x41#8) (fetchInstrBytes (ppuClock fetchLda)).2 = .next t ∧
      t.fatal = none ∧ t.ppu.nmi = false ∧ t.mapper.pending = false :=
  ⟨⟨⟨rfl, by decide⟩, rfl, rfl, rfl, rfl⟩, _, rfl, rfl, by decide, rfl⟩

/-- An RTI that clears the interrupt-disable flag in a step that routes an IRQ: entered in that step by 60 R427, lost by
45 R219, as the parameter says; a later IRQ is entered in both cases. -/
theorem test_rtiThenIrq :
    let s := fetching 0 [(0, 0x40#8)]
    let run := fun (delays : Bool) => step (((s.setParams { rtiDelaysIrq := delays }).setMapper
      (.mmc3 { counting with irqActive := true })).setCpu (s.cpu.setSp 0x80#8))
    (match run false with
      | .next t => t.cpu.cycles == 7 && t.cpu.p == 0x24#8 && !t.mapper.pending
      | _ => false) = true ∧
    (match run true with
      | .next t => t.cpu.cycles == 5 && t.cpu.p == 0x20#8 && !t.mapper.pending &&
        (match step (t.setMapper (.mmc3 { counting with irqActive := true })) with
          | .next u => u.cpu.cycles == 7 && u.cpu.p == 0x24#8
          | _ => false)
      | _ => false) = true := by decide

/-- The three bytes at both ends of the address ranges that hold memory. -/
theorem witness_FetchFromMemory :
    (standsMemory 0x1FFD#16 && standsMemory (0x1FFD#16 + 2#16) && standsMemory 0x6000#16 && standsMemory 0xFFFF#16 &&
      standsMemory (0xFFFF#16 + 1#16) && standsMemory (0xFFFF#16 + 2#16)) = true ∧
    decode [(memRead 0x8000#16 fetchLda).1, (memRead 0x8001#16 fetchLda).1, (memRead 0x8002#16 fetchLda).1] =
      .ok (.ldaImm 0x41#8, [0x00#8]) := by decide

theorem witness_StepWithoutFetch :
    (State.reset.running ∧ State.reset.hostQueue = [] ∧ State.reset.clk % 3 = 0 ∧ State.reset.dma.active = false ∧
      State.reset.cpu.cycles ≠ 0) ∧
    (State.reset.setClk 1).clk % 3 ≠ 0 ∧ (memWrite 0x4014#16 0x02#8 State.reset).dma.active = true :=
  ⟨⟨⟨rfl, by decide⟩, rfl, rfl, rfl, by decide⟩, by decide, rfl⟩

/-- A step without a fatal condition, one that meets one, and one after it. -/
theorem witness_StepCompletes :
    State.reset.cart.prgBanks ≠ 0 ∧ State.reset.hostQueue = [] ∧
    (match step (fetching 0 [(0, 0x02#8)]) with
      | .next t => t.fatal == some (.illegalOpcode 0x02#8 0x8000#16) && t.clk == 0 &&
        (match step t with
          | .next u => u == t
          | _ => false)
      | _ => false) = true := by decide

/-- An idle host; a waiting move; a saved state; and a restore of one that was not saved. -/
theorem witness_CartridgeFixed :
    (State.reset.hostQueue = [] ∧ ∃ t, step State.reset = .next t) ∧
    (State.reset.setHostQueue [[.save, .reset], []]).hostQueue = (HostMove.save :: [.reset]) :: [[]] ∧
    (State.reset.setSaves [State.reset.toBlock]).saves = (applyMove State.reset .save).saves ∧
    State.reset.saves.length ≤ 0 ∧
    ((State.reset.setSaves [State.reset.toBlock, fetchLda.toBlock]).saves[1]? = some fetchLda.toBlock) ∧
    State.reset.fatal = (State.reset.setSaves [State.reset.toBlock]).fatal ∧
    (State.reset.setHostQueue [[], [.reset]]).hostQueue = [] :: [[.reset]] ∧
    (let stopped := raise (.stackBoundary .nmi) State.reset
     stopped.params.restoresFatal = false ∧ (applyMove stopped .reset).fatal ≠ stopped.fatal) :=
  ⟨⟨rfl, _, rfl⟩, rfl, rfl, by decide, rfl, rfl, rfl, by decide⟩

/-- 46 R230, R249, log entry 6: the empty entry of a Bus step without moves is taken off the queue and the step is made. -/
theorem test_emptyEntry :
    (match step (fetchLda.setHostQueue [[], [.reset]]) with
      | .next t => t.cpu.a == 0x41#8 && t.hostQueue == [[.reset]]
      | _ => false) = true := by decide

/-- 49 R398: an image that is accepted, for mapper 66 with one program bank and vertical mirroring, and a shorter one. -/
theorem witness_CartridgeFixed_load :
    let header := [0x4E#8, 0x45#8, 0x53#8, 0x1A#8, 1#8, 0#8, 0x21#8, 0x40#8] ++ List.replicate 8 0x00#8
    let image := header ++ List.replicate 0x4000 0xEA#8
    let byte := fun k : Nat => (image.getD k 0x00#8).toNat
    (image.take 4 = [0x4E#8, 0x45#8, 0x53#8, 0x1A#8] ∧ 16 * (byte 7 / 16) + byte 6 / 16 = 66 ∧ byte 4 ≠ 0 ∧
      byte 6 / 4 % 2 = 0 ∧ 16 + 0x4000 * byte 4 + 0x2000 * byte 5 ≤ image.length) ∧
    applyMove State.reset (.load header) = State.reset := by
  refine ⟨⟨rfl, rfl, by decide, rfl, ?_⟩, by decide⟩
  show 16 + 0x4000 * 1 + 0x2000 * 0 ≤ (_ ++ List.replicate 0x4000 0xEA#8).length
  rw [List.length_append, List.length_replicate]
  decide

/-- Log entry 26: a restore does not end the fatal state and does not begin it (10 R17, 60 R423, R441), unless the
parameter has it restore the fatal status too (46 R249). -/
theorem test_restoreFatal :
    let fatal := some (Fatal.illegalOpcode 0x02#8 0x8000#16)
    let s := fun (b : Bool) => (applyMove (State.reset.setParams { restoresFatal := b }) .save).setFatal fatal
    let t := fun (b : Bool) => applyMove (applyMove (s b) .save) .reset
    applyMove (s false) (.restore 0) = s false ∧ applyMove (t false) (.restore 0) = t false ∧
    (t false).fatal = none ∧ (applyMove (t false) (.restore 1)).fatal = none ∧
    (applyMove (s true) (.restore 0)).fatal = none ∧ (applyMove (t true) (.restore 0)).fatal = fatal := by decide

/-- 46 R249: after a save, RAM is written and the masks change; the restore brings RAM back and keeps the masks. -/
theorem test_restore :
    let s := applyMove State.reset .save
    let t := applyMove (memWrite 0x0000#16 0x55#8 s) (.buttons 0x81#8 0x02#8)
    let u := applyMove t (.restore 0)
    (memRead 0x0000#16 t).1 = 0x55#8 ∧ (memRead 0x0000#16 u).1 = 0x00#8 ∧ u.pads.buttons1 = 0x81#8 ∧
    u.saves = [State.reset.toBlock] ∧ applyMove t (.restore 1) = t := by decide

/-- 70 R455, R457: power-on fills the memories from the parameters; a reset recreates only the cartridge's RAMs. -/
theorem test_initialContents :
    let s := State.reset.setParams { initial := { ram := [(0x10, 0xAA#8)], oam := [(0xFF, 0xBB#8)], prgRam := [(0, 0xCC#8)] } }
    let t := powerOn Cartridge.blank s
    let u := warmReset (memWrite 0x6000#16 0x11#8 (memWrite 0x0010#16 0x22#8 t))
    (memRead 0x0010#16 t).1 = 0xAA#8 ∧ t.ppu.oam.read 0xFF = 0xBB#8 ∧ (memRead 0x6000#16 t).1 = 0xCC#8 ∧
    (memRead 0x0010#16 u).1 = 0x22#8 ∧ (memRead 0x6000#16 u).1 = 0xCC#8 := by decide

theorem witness_LoadResult :
    loadForm (.ldaIzy 0xFF#8) = some (.a, ⟨0xB1#8, .izy 0xFF#8, 5, true⟩) ∧
    loadForm (.ldyAbx 0xFFFF#16) = some (.y, ⟨0xBC#8, .abx 0xFFFF#16, 4, true⟩) ∧ State.reset.fatal = none := by decide

theorem witness_StoreResult :
    storeForm (.staAbx 0xFFFF#16) = some (.a, ⟨0x9D#8, .abx 0xFFFF#16, 5, false⟩) ∧ State.reset.fatal = none := by decide

theorem witness_RegisterResult :
    registerForm (Cpu.reset {} 0#16) .dex = some (0xCA#8, .x, 0xFF#8) ∧ State.reset.fatal = none := by decide

theorem witness_AddResult :
    addForm (.adcImm 0x7F#8) = some (false, ⟨0x69#8, .imm 0x7F#8, 2, false⟩) ∧
    addForm (.sbcZp0 0x00#8) = some (true, ⟨0xE5#8, .zp0 0x00#8, 3, false⟩) ∧ State.reset.fatal = none := by decide

/-- 0x7F + 1 overflows; 0x80 - 1 overflows. -/
theorem witness_OverflowIsSigned :
    (match exec (.adcImm 0x01#8) (start 0x0202#16 0x7F#8 0#8 0#8 0xFD#8 0x24#8 []) with
      | .next t => t.cpu.p.getLsbD 6
      | _ => false) = true ∧
    (match exec (.sbcImm 0x01#8) (start 0x0202#16 0x80#8 0#8 0#8 0xFD#8 0x25#8 []) with
      | .next t => t.cpu.p.getLsbD 6 && t.cpu.p.getLsbD 0
      | _ => false) = true := by decide

theorem witness_LogicResult :
    logicForm (.eorImm 0xFF#8) = some (.xor, ⟨0x49#8, .imm 0xFF#8, 2, false⟩) ∧ State.reset.fatal = none := by decide

theorem witness_CompareResult :
    compareForm (.cpyImm 0x00#8) = some (.y, ⟨0xC0#8, .imm 0x00#8, 2, false⟩) ∧ State.reset.fatal = none := by decide

theorem witness_BitResult :
    bitForm (.bitAbs 0x2002#16) = some ⟨0x2C#8, .abs 0x2002#16, 4, false⟩ ∧ State.reset.fatal = none := by decide

theorem witness_IncDecResult :
    stepForm (.incAbs 0x2007#16) = some (true, ⟨0xEE#8, .abs 0x2007#16, 6, false⟩) ∧ State.reset.fatal = none := by decide

theorem witness_ShiftResult :
    shiftForm .rorAcc = some (.ror, ⟨0x6A#8, .acc, 2, false⟩) ∧
    shiftForm (.aslZp0 0xFF#8) = some (.asl, ⟨0x06#8, .zp0 0xFF#8, 5, false⟩) ∧ State.reset.fatal = none := by decide

theorem witness_JumpResult :
    jumpForm (.jmpInd 0x03FF#16) = some ⟨0x6C#8, .ind 0x03FF#16, 5, false⟩ ∧ State.reset.fatal = none := by decide

theorem witness_SubroutineResult :
    let s := State.reset.setCpu (State.reset.cpu.setSp 0x02#8)
    s.fatal = none ∧ 2 ≤ s.cpu.sp.toNat := by decide

/-- Taken and not taken. -/
theorem witness_BranchResult :
    branchForm (.bne 0x80#8) = some ⟨0xD0#8, 1, false, 0x80#8⟩ ∧ branchForm (.bvs 0x7F#8) = some ⟨0x70#8, 6, true, 0x7F#8⟩ ∧
    State.reset.fatal = none ∧ State.reset.cpu.p.getLsbD 1 = false ∧ ¬ State.reset.cpu.p.getLsbD 6 = true := by decide

theorem witness_FlagResult : flagForm .sed = some (0xF8#8, 3, true) ∧ State.reset.fatal = none := by decide

theorem witness_PushResult :
    let s := State.reset.setCpu (State.reset.cpu.setSp 0x01#8)
    s.fatal = none ∧ s.cpu.sp ≠ 0x00#8 := by decide

theorem witness_PullResult : (State.reset.setCpu (State.reset.cpu.setSp 0xFF#8)).fatal = none := by decide

theorem witness_BrkResult :
    let s := State.reset.setCpu (State.reset.cpu.setSp 0x03#8)
    s.fatal = none ∧ 3 ≤ s.cpu.sp.toNat := by decide

theorem witness_RtiResult : (State.reset.setCpu (State.reset.cpu.setSp 0xFE#8)).fatal = none := by decide

theorem witness_IllegalResult : 0x02#8 ∈ illegalBytes ∧ 0xFF#8 ∈ illegalBytes := by decide

/-- The last stack pointer of each clause. -/
theorem witness_StackBoundary :
    State.reset.fatal = none ∧ (State.reset.setCpu (State.reset.cpu.setSp 0x00#8)).cpu.sp.toNat < 1 ∧
    (State.reset.setCpu (State.reset.cpu.setSp 0x01#8)).cpu.sp.toNat < 2 ∧
    (State.reset.setCpu (State.reset.cpu.setSp 0x02#8)).cpu.sp.toNat < 3 := by decide

theorem witness_RegisterFrame :
    (∃ t, exec (.bitZp0 0x00#8) State.reset = .next t) ∧ destination (.bitZp0 0x00#8) ≠ some .a ∧
    movesStack (.bitZp0 0x00#8) = false ∧ writesPc (.bitZp0 0x00#8) = false :=
  ⟨⟨_, rfl⟩, by decide, rfl, rfl⟩

theorem witness_MemoryFrame :
    pushes (.ldaAbs 0x2007#16) = false ∧ storedMode (.ldaAbs 0x2007#16) = none ∧
    ∃ t, exec (.ldaAbs 0x2007#16) State.reset = .next t := ⟨rfl, rfl, _, rfl⟩

/-- A store to RAM, one to the PPU's data port, and one to a mapper register: each place and a byte elsewhere. -/
theorem witness_StoreFrame :
    storedMode (.staAbs 0x1FFF#16) = some (.abs 0x1FFF#16) ∧ storedMode (.rolAcc) = none ∧
    storePlace State.reset 0x1FFF#16 = some (.ram 0x7FF) ∧ storePlace State.reset 0x0000#16 ≠ some (.ram 0x7FF) ∧
    storePlace (State.reset.setPpu { State.reset.ppu with vram := 0x3F10#15 }) 0x3FFF#16 = some (.palette 0) ∧
    storePlace State.reset 0x8000#16 = none ∧ standsMemory 0x0000#16 = true := by decide

theorem witness_StoreFrame_completes : ∃ t, exec (.staAbs 0x1FFF#16) State.reset = .next t := ⟨_, rfl⟩

theorem witness_StackFrame :
    (∃ t, exec .pha State.reset = .next t) ∧ (∃ t, exec .php State.reset = .next t) ∧
    (∃ t, exec (.jsr 0#16) State.reset = .next t) ∧ (∃ t, exec .brk State.reset = .next t) :=
  ⟨⟨_, rfl⟩, ⟨_, rfl⟩, ⟨_, rfl⟩, ⟨_, rfl⟩⟩

theorem witness_InterruptEntry :
    (State.reset.setCpu (State.reset.cpu.setSp 0x03#8)).fatal = none ∧
    3 ≤ (State.reset.setCpu (State.reset.cpu.setSp 0x03#8)).cpu.sp.toNat ∧
    (State.reset.setCpu (State.reset.cpu.setSp 0x02#8)).cpu.sp.toNat < 3 ∧
    (0xFFFA#16 = 0xFFFA#16 ∨ 0xFFFA#16 = 0xFFFE#16) ∧ (0xFFFE#16 = 0xFFFA#16 ∨ 0xFFFE#16 = 0xFFFE#16) := by decide

/-- A block with an MMC3 request pending, and one with the PPU's. -/
def requesting (nmi irq : Bool) (p : Byte) : State :=
  ((State.reset.setMapper (.mmc3 { counting with irqActive := irq })).setPpu { State.reset.ppu with nmi := nmi }).setCpu
    { State.reset.cpu with sp := 0x03#8, p := p }

theorem witness_InterruptRouting :
    let a := requesting true true 0x20#8
    let b := requesting false true 0x20#8
    let c := requesting false true 0x24#8
    (a.fatal = none ∧ 3 ≤ a.cpu.sp.toNat ∧ a.ppu.nmi = true) ∧
    (b.ppu.nmi = false ∧ b.mapper.pending = true ∧ b.cpu.p.getLsbD 2 = false) ∧
    (c.ppu.nmi = false ∧ c.mapper.pending = true ∧ c.cpu.p.getLsbD 2 = true) ∧
    (b.ppu.nmi = false ∧ (b.mapper.pending = true → b.cpu.p.getLsbD 2 = true ∨ true = true)) ∧
    (let low := fun s : State => s.setCpu (s.cpu.setSp 0x02#8)
     (low a).cpu.sp.toNat < 3 ∧ (low a).ppu.nmi = true ∧ (low b).ppu.nmi = false ∧ (low b).mapper.pending = true ∧
      (low b).cpu.p.getLsbD 2 = false) := by decide

/-- 60 R423, R431: an NMI entry that meets the stack boundary leaves the mapper's request and `clk` as they were. -/
theorem test_routingBoundary :
    let s := (requesting true true 0x20#8).setCpu { State.reset.cpu with sp := 0x02#8, p := 0x20#8 }
    (endStep false s).fatal = some (.stackBoundary .nmi) ∧ (endStep false s).mapper = s.mapper ∧
    (endStep false s).clk = s.clk ∧ (endStep false s).ppu.nmi = false ∧ (endStep false s).cpu.p = 0x20#8 := by decide

theorem witness_RtiUndoesEntry :
    let s := requesting false false 0x24#8
    s.fatal = none ∧ s.ram.wf = true ∧ s.statusBitsFixed ∧ 3 ≤ s.cpu.sp.toNat ∧
    ∃ t, exec .rti (interruptEntry .irq 0xFFFE#16 s) = .next t := ⟨rfl, rfl, ⟨rfl, rfl⟩, by decide, _, rfl⟩

theorem witness_ResetMemories :
    (∀ j, Place.ram 0 ≠ .prgRam j ∧ Place.ram 0 ≠ .chrRam j) ∧ ∀ j, Place.oam 255 ≠ .prgRam j ∧ Place.oam 255 ≠ .chrRam j :=
  ⟨fun _ => ⟨nofun, nofun⟩, fun _ => ⟨nofun, nofun⟩⟩

theorem reset_memoriesSound : State.reset.memoriesSound :=
  ⟨⟨rfl, rfl⟩, ⟨rfl, rfl⟩, ⟨rfl, rfl⟩, ⟨rfl, rfl⟩, ⟨rfl, rfl⟩, ⟨rfl, rfl⟩, ⟨rfl, rfl⟩⟩

/-- Two mirrors of one RAM byte at the ends of the range; the two ends of the add-on RAM. -/
theorem witness_RamReadAfterWrite :
    State.reset.memoriesSound ∧ (0x1FFF#16).toNat < 0x2000 ∧ (0x07FF#16).toNat % 0x800 = (0x1FFF#16).toNat % 0x800 ∧
    0x6000 ≤ (0x6000#16).toNat ∧ (0x7FFF#16).toNat < 0x8000 := ⟨reset_memoriesSound, by decide⟩

/-- Both ends of every range, and the ports. -/
theorem witness_UnmappedAccess :
    (memRead 0x4014#16 State.reset).1 = 0x00#8 ∧ (memRead 0x5FFF#16 State.reset).1 = 0x00#8 ∧
    (memRead 0x3FFE#16 State.reset).1 = 0x00#8 ∧ memWrite 0x4018#16 0xFF#8 State.reset = State.reset ∧
    memWrite 0x5FFF#16 0xFF#8 State.reset = State.reset ∧ memWrite 0x2002#16 0xFF#8 State.reset = State.reset ∧
    memWrite 0x3FFA#16 0xFF#8 State.reset = State.reset := by decide

/-- 46 R247: two reads of 0x4015 draw two values and change nothing but the count. -/
theorem test_apuReads :
    let r := memRead 0x4015#16 State.reset
    r = (Config.apuRead 0, State.reset.setApuDraws 1) ∧ (memRead 0x4015#16 r.2).1 = Config.apuRead 1 := ⟨rfl, rfl⟩

/-- 46 R246: the bytes handed to the sound unit, the last one first; 0x4014 and 0x4016 are not its registers. -/
theorem test_apuWrites :
    (memWrite 0x4017#16 0x40#8 (memWrite 0x4016#16 0x01#8 (memWrite 0x4015#16 0x0F#8 (memWrite 0x4014#16 0x02#8
      (memWrite 0x4013#16 0x33#8 (memWrite 0x4000#16 0x30#8 State.reset)))))).apuWrites =
      [(0x4017#16, 0x40#8), (0x4015#16, 0x0F#8), (0x4013#16, 0x33#8), (0x4000#16, 0x30#8)] := by decide

theorem witness_PortReads :
    (0x2002#16).toNat % 8 = 2 ∧ (0x3FFA#16).toNat % 8 = 2 ∧ (0x2007#16).toNat % 8 = 7 ∧ (0x3FFF#16).toNat % 8 = 7 ∧
    0x2000 ≤ (0x2002#16).toNat ∧ (0x3FFF#16).toNat ≤ 0x3FFF := by decide

/-- Both values of the toggle; every port at the first or the last mirror. -/
theorem witness_ScrollAndAddress :
    State.reset.ppu.latch = false ∧ (memWrite 0x2005#16 0x00#8 State.reset).ppu.latch = true ∧
    (0x2000#16).toNat % 8 = 0 ∧ (0x3FF9#16).toNat % 8 = 1 ∧ (0x3FFD#16).toNat % 8 = 5 ∧ (0x2006#16).toNat % 8 = 6 ∧
    (0x3FFF#16).toNat % 8 = 7 ∧ 0x2000 ≤ (0x2000#16).toNat ∧ (0x3FFF#16).toNat ≤ 0x3FFF := by decide

/-- 47 R280 to R282, R288: a scroll write and an address write share the toggle; the data port advances `vram` by 32. -/
theorem test_mixedPorts :
    let s := writes State.reset [(0x2000#16, 0x04#8), (0x3FF5#16, 0x00#8), (0x200E#16, 0x21#8)]
    let t := writes State.reset [(0x2000#16, 0x04#8), (0x2006#16, 0x2F#8), (0x2006#16, 0xFF#8), (0x3FFF#16, 0x5A#8)]
    s.ppu.vram = 0x0021#15 ∧ s.ppu.latch = false ∧ t.ppu.vram = 0x301F#15 ∧ ppuRead t 0x2FFF = 0x5A#8 := by decide

/-- Character RAM (the reset cartridge has ROM), a mirrored table, a palette alias, and another place. -/
theorem witness_PpuReadAfterWrite :
    State.reset.memoriesSound ∧ ppuPlace State.reset 0x2000 = ppuPlace State.reset 0x3400 ∧
    ppuPlace State.reset 0x2000 ≠ none ∧ ppuPlace State.reset 0x3F10 = ppuPlace State.reset 0x3FE0 ∧
    State.reset.cart.chrBanks ≠ 0 ∧ ppuPlace (board .nrom 1 0) 0x1FFF = some (.chrRam 0x1FFF) ∧
    ppuPlace State.reset 0x3F00 ≠ some (.palette 1) ∧ 0x2000 ≤ 0x3EFF ∧ 0x3EFF < 0x3F00 ∧ 0xFF < 0x100 :=
  ⟨reset_memoriesSound, by decide⟩

/-- 20 R66, R67: the second quarter shows the second table in vertical mirroring and the first in horizontal; 0x3F1C
shows the entry of 0x3F0C and 0x3F1D that of no other. -/
theorem test_mirrorsAndAliases :
    let s := State.reset.setMirror .vertical
    ppuRead (ppuWrite s 0x2401 0x77#8) 0x2C01 = 0x77#8 ∧ ppuRead (ppuWrite s 0x2401 0x77#8) 0x2001 = 0x00#8 ∧
    ppuRead (ppuWrite State.reset 0x2401 0x77#8) 0x2001 = 0x77#8 ∧
    ppuRead (ppuWrite State.reset 0x3F1C 0x21#8) 0x3F0C = 0x21#8 ∧
    ppuRead (ppuWrite State.reset 0x3F1D 0x21#8) 0x3F0D = 0x00#8 := by decide

theorem witness_OamPorts : State.reset.memoriesSound := reset_memoriesSound

theorem witness_ControllerReads : (0x01#8).getLsbD 0 = true ∧ (0xFE#8).getLsbD 0 = false := by decide

/-- Pages at the ends of the ranges that hold memory, and both parities of `clk`. -/
theorem witness_DmaTransfer :
    State.reset.memoriesSound ∧ State.reset.dma.dummy = true ∧ (0x1F#8).toNat < 0x20 ∧ 0x60 ≤ (0x60#8).toNat ∧
    (State.reset.setClk 39).clk % 2 = 1 ∧ State.reset.clk % 2 ≠ 1 := ⟨reset_memoriesSound, by decide⟩

theorem witness_Mmc1Load :
    (board .mmc1 8 4).mapper = .mmc1 ⟨0#5, 0, 0x0C#5, 0#5, 0#5, 0#5⟩ ∧
    (0x7F#8).getLsbD 7 = false ∧ (0x80#8).getLsbD 7 = true ∧ 0x8000 ≤ 0x9FFF ∧ 0xFFFF < 0x10000 ∧
    0x8000 ≤ (0x8000#16).toNat ∧ (board .nrom 1 1).mapper = .nrom ∧ (board .uxrom 8 0).mapper = .uxrom 0#4 ∧
    (board .cnrom 2 4).mapper = .cnrom 0#8 ∧ (board .gxrom 8 4).mapper = .gxrom 0#2 0#2 := by decide

/-- 49 R385, R386, R396: the registers of the three simple mappers. -/
theorem test_simpleMappers :
    (memWrite 0x8000#16 0xF5#8 (board .uxrom 8 0)).mapper = .uxrom 0x5#4 ∧
    (memWrite 0xFFFF#16 0x07#8 (board .cnrom 2 4)).mapper = .cnrom 0x03#8 ∧
    (memWrite 0xC000#16 0xE6#8 (board .gxrom 8 4)).mapper = .gxrom 0b10#2 0b10#2 := by decide

theorem witness_FixedWindows :
    (board .uxrom 8 0).cart.prgBanks ≠ 0 ∧ (board .uxrom 8 0).mapper = .uxrom 0#4 ∧
    (0x0C#5 : BitVec 5).getLsbD 3 = true ∧ (0x0C#5 : BitVec 5).getLsbD 2 = true ∧ (0x08#5 : BitVec 5).getLsbD 2 = false ∧
    (board .mmc3 8 16).mapper.id = .mmc3 ∧ 0xC000 ≤ 0xFFFF ∧ 0x8000 ≤ 0xBFFF ∧ (0x03#5 : BitVec 5).getLsbD 3 = false ∧
    (board .nrom 1 1).mapper = .nrom ∧ (board .cnrom 2 4).mapper = .cnrom 0#8 ∧
    (board .gxrom 8 4).mapper = .gxrom 0#2 0#2 ∧ (board .mmc1 8 4).mapper = .mmc1 ⟨0#5, 0, 0x0C#5, 0#5, 0#5, 0#5⟩ := by
  decide

/-- 49 R389: the bank before the last (14 of 16) is at 0xC000 in program mode 0 and at 0x8000 in mode 1. -/
theorem test_mmc3SecondFixed :
    let s := board .mmc3 8 16
    prgOffset s 0xC000 = 14 * 0x2000 ∧ prgOffset (memWrite 0x8000#16 0x46#8 s) 0x9FFF = 15 * 0x2000 - 1 ∧
    prgOffset (memWrite 0x8000#16 0x46#8 s) 0xC000 = 0 := by decide

theorem witness_Mmc3Characters :
    0x0FFF < 0x1000 ∧ 0x1000 ≤ 0x1FFF ∧ 0x1FFF < 0x2000 ∧ (board .nrom 1 0).cart.chrBanks = 0 ∧
    (0x10#5 : BitVec 5).getLsbD 4 = true ∧ (0x0F#5 : BitVec 5).getLsbD 4 = false := by decide

/-- 49 R384, R386, R396: the character windows of MMC1 in both modes, CNROM and GxROM. -/
theorem test_characterWindows :
    let r : Mmc1 := ⟨0#5, 0, 0x1C#5, 0x05#5, 0x0B#5, 0#5⟩
    mapChr (.mmc1 r) 0x0FFF = 0x5FFF ∧ mapChr (.mmc1 r) 0x1000 = 0xB000 ∧
    mapChr (.mmc1 { r with control := 0x0C#5 }) 0x1000 = 0x5000 ∧
    mapChr (.cnrom 3#8) 0x1234 = 0x7234 ∧ mapChr (.gxrom 2#2 1#2) 0x1234 = 0x5234 := by decide

theorem witness_Mmc3Counter :
    counting.irqCounter = 0x00#8 ∧ counting.irqActive = false ∧ ({ counting with irqEnable := false } : Mmc3).irqEnable = false ∧
    (board .mmc3 8 16).mapper.id = .mmc3 ∧ 0x8000 ≤ (0x8000#16).toNat ∧ (0x9FFF#16).toNat < 0xA000 ∧
    ¬ (0x9FFF#16).toNat % 2 = 0 ∧ 0xA000 ≤ (0xBFFF#16).toNat ∧ (0xBFFF#16).toNat < 0xC000 ∧
    (0xDFFF#16).toNat < 0xE000 ∧ 0xE000 ≤ (0xFFFF#16).toNat ∧ 7 < (List.replicate 8 0x00#8).length := by
  decide

/-- 49 R387, R388, R391 to R393: one write to each register of MMC3. -/
theorem test_mmc3Registers :
    let s := memWrite 0x9FFF#16 0x99#8 (memWrite 0x8000#16 0x82#8 (board .mmc3 8 16))
    let t := memWrite 0xE001#16 0x00#8 (memWrite 0xC000#16 0x0A#8 (memWrite 0xA000#16 0x01#8 s))
    (match t.mapper with
      | .mmc3 r => r.bank 2 == 0x99#8 && r.chrInv && !r.prgMode && r.irqLatch == 0x0A#8 && r.irqEnable && r.mirror
      | _ => false) = true ∧ t.mirror = .horizontal ∧ (memWrite 0xA000#16 0x00#8 t).mirror = .vertical := by decide

/-- In range at the first and last position; the skip and the wrap. -/
theorem witness_PositionAdvance :
    let at' := fun (l : Int) (c : Nat) => State.reset.setPpu { State.reset.ppu with
      scanline := l, cycle := c, oddFrame := true, mask := 0x08#8 }
    ((at' (-1) 0).ppuInRange ∧ (at' 260 340).ppuInRange) ∧
    ((at' 0 0).ppu.oddFrame = true ∧ (at' 0 0).ppu.mask.getLsbD 3 = true) ∧
    (ppuClock (at' 0 0)).ppu.cycle = 2 ∧ (ppuClock (at' 260 340)).ppu.scanline = -1 := by
  simp only [Block.ppuInRange]
  decide

theorem witness_VerticalBlank :
    let at' := fun (l : Int) => State.reset.setPpu { State.reset.ppu with
      scanline := l, cycle := 1, control := 0x80#8, status := 0x60#8 }
    (ppuClock (at' 241)).ppu.status = 0xE0#8 ∧ (ppuClock (at' 241)).ppu.nmi = true ∧
    (ppuClock (at' (-1))).ppu.status = 0x00#8 ∧ (ppuClock (at' (-1))).ppu.nmi = false := by decide

/-- 48 R343: the counter is ticked at both ends of the lines with rendering enabled, and not otherwise. -/
theorem test_mapperTick :
    let after := fun (l : Int) (c : Nat) (m : Byte) => (ppuClock ((State.reset.setMapper (.mmc3 counting)).setPpu
      { State.reset.ppu with scanline := l, cycle := c, mask := m })).mapper
    after (-1) 260 0x08#8 = .mmc3 counting.tick ∧ after 239 260 0x10#8 = .mmc3 counting.tick ∧
    after 240 260 0x18#8 = .mmc3 counting ∧ after 0 260 0x00#8 = .mmc3 counting ∧ after 0 259 0x08#8 = .mmc3 counting ∧
    counting.tick ≠ counting := by decide

/-- At reset all 64 entries cover line 0 (vector G11). -/
theorem witness_SpriteEvaluation :
    (evaluateSprites State.reset.ppu).sprCount = 8 ∧ (evaluateSprites State.reset.ppu).status = 0x20#8 ∧
    (evaluateSprites { State.reset.ppu with scanline := 8 }).sprCount = 0 := by decide

/-- A selected slot on its first row, and one of 16 rows on its last; a slot that is not selected. -/
theorem witness_SpriteEvaluation_load :
    let p := evaluateSprites State.reset.ppu
    let q := evaluateSprites { State.reset.ppu with scanline := 15, control := 0x20#8 }
    let d : SpriteSlot := ⟨0#8, 0#8, 0#8, 0#8, 0#8, 0#8⟩
    (p.spr[7]? = some d ∧ 7 < p.sprCount ∧ ((0 : Nat) : Int) = p.scanline - d.y.toNat) ∧
    (q.spr[0]? = some d ∧ ((15 : Nat) : Int) = q.scanline - d.y.toNat ∧ q.control.getLsbD 5 = true) ∧
    State.reset.ppu.spr[7]? = some SpriteSlot.empty ∧ State.reset.ppu.sprCount ≤ 7 := by decide

/-- 48 R335: row 2 of an 8 x 16 sprite flipped vertically is row 5 of its lower tile; bits reversed when flipped
horizontally. -/
theorem test_spritePattern :
    let s := ppuWrite (ppuWrite (board .nrom 1 0) 0x1035 0x01#8) 0x103D 0xB0#8
    let d : SpriteSlot := ⟨8#8, 0x03#8, 0xC0#8, 0#8, 0#8, 0#8⟩
    (loadSpritePatterns (s.setPpu { s.ppu with control := 0x20#8, scanline := 10, spr := [d], sprCount := 1 })).ppu.spr =
      [{ d with lo := 0x80#8, hi := 0x0D#8 }] := by decide

theorem witness_PixelStored :
    let s := State.reset.setPpu { State.reset.ppu with scanline := 239, cycle := 256 }
    s.ppu.visibleLine = true ∧ 1 ≤ s.ppu.cycle ∧ s.ppu.cycle ≤ 256 := by decide

/-- 48 R337 (introduction), R344: the first and the last pixel are stored, the neighbouring cycles store none. -/
theorem test_composition :
    let frame := fun (l : Int) (c : Nat) => (ppuClock (State.reset.setPpu
      { State.reset.ppu with scanline := l, cycle := c })).ppu.frame
    frame 0 1 = [(0, 0x00#8)] ∧ frame 239 256 = [(256 * 239 + 255, 0x00#8)] ∧ frame 0 0 = [] ∧ frame 239 257 = [] ∧
    frame (-1) 1 = [] ∧ frame 240 1 = [] := by decide

/-- 48 R337, R338, R340: with fine-x 3 the pixel is bit 12; slot 0 shows an opaque pixel over it and the flag is set,
but not in the left 8 pixels when their enables are off. -/
theorem test_zeroHit :
    let at' := fun c : Nat => State.reset.setPpu { State.reset.ppu with
      mask := 0x18#8, cycle := c, fineX := 3#3, shPatHi := 0x1000#16, zeroPossible := true, sprCount := 1,
      spr := [⟨0#8, 0#8, 0#8, 0#8, 0x80#8, 0#8⟩] }
    (at' 9).ppu.bgPixel = 2#2 ∧ (composePixel (at' 9)).ppu.status = 0x40#8 ∧ (composePixel (at' 8)).ppu.status = 0x00#8 := by
  decide

/-- Each clause with a hypothesis at the ends of its range. -/
theorem witness_RenderCycle :
    let at' := fun (l : Int) (c : Nat) => State.reset.setPpu { State.reset.ppu with scanline := l, cycle := c }
    (∀ c ∈ [2, 256, 257], -1 ≤ (at' (-1) c).ppu.scanline ∧ 2 ≤ (at' (-1) c).ppu.cycle ∧ (at' (-1) c).ppu.cycle ≤ 257) ∧
    ((at' (-1) 1).ppu.scanline = -1 ∧ (at' (-1) 1).ppu.cycle = 1) ∧
    ((at' (-1) 257).ppu.scanline < 0 ∧ (at' 260 1).ppu.scanline ≠ -1 ∧ (at' 0 258).ppu.cycle = 258) ∧
    (at' 239 257).ppu.scanline ≤ 239 ∧ 0 ≤ (at' 239 257).ppu.scanline ∧ (at' 239 257).ppu.cycle = 257 ∧
    (at' 0 340).ppu.cycle = 340 := by decide

/-- 48 R328, R329, R331, R332: the column advance over the table's edge; column and row at cycle 256 from the last row
of a table; the two transfers. -/
theorem test_vramMoves :
    let next := fun (l : Int) (c : Nat) (v : BitVec 15) => (ppuClock (State.reset.setPpu { State.reset.ppu with
      mask := 0x08#8, scanline := l, cycle := c, vram := v, tram := 0x7FFF#15 })).ppu.vram
    next 10 8 0x001F#15 = 0x0400#15 ∧ next 10 256 0x73A0#15 = 0x0801#15 ∧ next 10 257 0x0000#15 = 0x041F#15 ∧
    next (-1) 280 0x0000#15 = 0x7BE0#15 ∧ next (-1) 305 0x0000#15 = 0x0000#15 := by decide

/-- 48 R330, R333: the shifters move one place and take the latched tile in the first cycle of eight. -/
theorem test_shifters :
    let q := (ppuClock (State.reset.setPpu { State.reset.ppu with
      mask := 0x18#8, scanline := 10, cycle := 9, shPatLo := 0x40C1#16, bgLsb := 0x55#8, bgAttrib := 0x02#8,
      sprCount := 1, spr := [⟨0#8, 0#8, 0#8, 0#8, 0x81#8, 0#8⟩, ⟨0#8, 0#8, 0#8, 9#8, 0x81#8, 0#8⟩] })).ppu
    q.shPatLo = 0x8155#16 ∧ q.shAttLo = 0x0000#16 ∧ q.shAttHi = 0x00FF#16 ∧
    q.spr = [⟨0#8, 0#8, 0#8, 0#8, 0x02#8, 0#8⟩, ⟨0#8, 0#8, 0#8, 9#8, 0x81#8, 0#8⟩] := by decide

/-- Nothing has been saved at reset. -/
theorem reset_everywhere {P : Block → Prop} (h : P State.reset.toBlock) : State.reset.everywhere P :=
  ⟨h, fun _ hb => absurd hb List.not_mem_nil⟩

theorem witness_StepKeepsMemories :
    contentsSound State.reset.params.initial ∧ State.reset.everywhere Block.memoriesHold ∧
    ∃ t, step State.reset = .next t :=
  ⟨⟨⟨rfl, rfl⟩, ⟨rfl, rfl⟩, ⟨rfl, rfl⟩, ⟨rfl, rfl⟩, ⟨rfl, rfl⟩, ⟨rfl, rfl⟩, ⟨rfl, rfl⟩⟩,
    reset_everywhere ⟨reset_memoriesSound, ⟨rfl, rfl⟩⟩, _, rfl⟩

theorem reset_registersHold : State.reset.registersHold :=
  ⟨⟨rfl, rfl⟩, by simp only [Block.ppuInRange]; decide, ⟨rfl, nofun, nofun⟩, ⟨fun _ => rfl, fun _ => rfl⟩,
    fun _ => ⟨rfl, rfl⟩⟩

theorem witness_StepKeepsRegisters :
    State.reset.everywhere Block.registersHold ∧ ∃ t, step State.reset = .next t :=
  ⟨reset_everywhere reset_registersHold, _, rfl⟩

/-- The invariants with a saved state. -/
theorem witness_savedStates :
    let s := applyMove State.reset .save
    s.saves.length = 1 ∧ s.everywhere Block.memoriesHold ∧ s.everywhere Block.registersHold := by
  refine ⟨rfl, ⟨⟨reset_memoriesSound, ⟨rfl, rfl⟩⟩, ?_⟩, ⟨reset_registersHold, ?_⟩⟩ <;> intro b hb <;>
    cases List.mem_singleton.mp hb
  · exact ⟨reset_memoriesSound, ⟨rfl, rfl⟩⟩
  · exact reset_registersHold

end Sys2Proof.Tests
end

section
/-! SUPPORT. What keeps the fixed bits of `P`, and the one traversal of the CPU's work that every invariant uses: a
property that the CPU's elementary changes keep, every instruction, fetch and exception keeps. -/

namespace Sys2Proof.Machine

/-! The fixed bits of `P` (10_state.md R14). -/

/-- `Block.statusBitsFixed` of a CPU record. -/
def Cpu.statusFixed (c : Cpu) : Prop := c.p.getLsbD 4 = false ∧ c.p.getLsbD 5 = true

theorem statusBitsFixed_iff (b : Block) : b.statusBitsFixed ↔ b.cpu.statusFixed := Iff.rfl

/-- Bits 4 and 5 are no flags that an instruction sets on its own. -/
theorem Cpu.statusFixed.setFlag {c : Cpu} (h : c.statusFixed) {k : Nat} (b : Bool) (hk : k < 8) (h4 : k ≠ 4)
    (h5 : k ≠ 5) : (c.setFlag k b).statusFixed := by
  obtain ⟨hb4, hb5⟩ := h
  unfold Cpu.statusFixed
  rw [Cpu.setFlag_p, putBit_getLsbD _ _ _ hk, putBit_getLsbD _ _ _ hk, if_neg h4.symm, if_neg h5.symm]
  exact ⟨hb4, hb5⟩

/-- R138, R219: a pulled status byte. -/
theorem Cpu.statusFixed_canonical (c : Cpu) (v : Byte) : (c.setP (statusCanonical v)).statusFixed := by
  constructor <;> simp [statusCanonical]

theorem Cpu.statusFixed.setZN {c : Cpu} (h : c.statusFixed) (v : Byte) : (c.setZN v).statusFixed :=
  (h.setFlag _ (by decide) (by decide) (by decide)).setFlag _ (by decide) (by decide) (by decide)

theorem Cpu.statusFixed.loadA {c : Cpu} (h : c.statusFixed) (v : Byte) : (c.loadA v).statusFixed :=
  setZN (c := c.setA v) h v

theorem Cpu.statusFixed.load {c : Cpu} (h : c.statusFixed) (r : Reg) (v : Byte) : (c.load r v).statusFixed := by
  cases r
  · exact h.loadA v
  · exact setZN (c := c.setX v) h v
  · exact setZN (c := c.setY v) h v

theorem Cpu.statusFixed.addWithCarry {c : Cpu} (h : c.statusFixed) (m : Byte) : (c.addWithCarry m).statusFixed :=
  loadA ((h.setFlag _ (by decide) (by decide) (by decide)).setFlag _ (by decide) (by decide) (by decide)) _

theorem Cpu.statusFixed.compare {c : Cpu} (h : c.statusFixed) (r m : Byte) : (c.compare r m).statusFixed :=
  ((h.setFlag _ (by decide) (by decide) (by decide)).setFlag _ (by decide) (by decide) (by decide)).setFlag _
    (by decide) (by decide) (by decide)

theorem Cpu.statusFixed.bitTest {c : Cpu} (h : c.statusFixed) (m : Byte) : (c.bitTest m).statusFixed :=
  ((h.setFlag _ (by decide) (by decide) (by decide)).setFlag _ (by decide) (by decide) (by decide)).setFlag _
    (by decide) (by decide) (by decide)

theorem Cpu.statusFixed.incDec {c : Cpu} (h : c.statusFixed) (b : Bool) (m : Byte) :
    (incDecOp b c m).2.statusFixed := by
  cases b
  · exact h.setZN _
  · exact h.setZN _

theorem Cpu.statusFixed.shift {c : Cpu} (h : c.statusFixed) (k : Shift) (m : Byte) : (k.op c m).2.statusFixed := by
  rw [Shift.op_cpu]
  exact (h.setFlag _ (by decide) (by decide) (by decide)).setZN _

/-! The CPU's elementary changes. -/

/-- A property that Bus reads, Bus writes, changes of the CPU record that keep the fixed bits of `P`, and a raised fatal
condition keep. -/
structure CpuClosed (P : State → Prop) : Prop where
  read : ∀ {s} a, P s → P (memRead a s).2
  write : ∀ {s} a v, P s → P (memWrite a v s)
  cpu : ∀ {s} c, (s.cpu.statusFixed → c.statusFixed) → P s → P (s.setCpu c)
  stop : ∀ {s} f, P s → P (raise f s)

/-- The next state that an outcome gives, if it gives one, has the property. -/
def outHolds (P : State → Prop) (o : Out) : Prop := ∀ t, o = .next t → P t

theorem outHolds_next {P : State → Prop} {s : State} (h : P s) : outHolds P (.next s) := by
  rintro t ⟨⟩
  exact h

theorem outHolds_bindOut {P : State → Prop} {o : Out} {f : State → Out} (h : outHolds P o)
    (hf : ∀ s, P s → outHolds P (f s)) : outHolds P (bindOut o f) := by
  cases o with
  | next s => exact hf s (h s rfl)
  | fault r => rintro t ⟨⟩
  | refused r => rintro t ⟨⟩

namespace CpuClosed

variable {P : State → Prop} (hP : CpuClosed P)
include hP

/-! Registers other than `P`. -/

theorem setPc (v : Word) {s : State} (h : P s) : P (s.setCpu (s.cpu.setPc v)) := hP.cpu _ id h

theorem setSp (v : Byte) {s : State} (h : P s) : P (s.setCpu (s.cpu.setSp v)) := hP.cpu _ id h

theorem setOpcode (v : Byte) {s : State} (h : P s) : P (s.setCpu (s.cpu.setOpcode v)) := hP.cpu _ id h

theorem setCycles (n : Nat) {s : State} (h : P s) : P (s.setCpu (s.cpu.setCycles n)) := hP.cpu _ id h

/-! The stack and the exceptions. -/

theorem push (o : Origin) (v : Byte) {s : State} (h : P s) : P (push o v s) := by
  unfold Machine.push
  split
  · exact hP.stop _ h
  · exact hP.setSp _ (hP.write _ _ h)

theorem pushWord (o : Origin) (w : Word) {s : State} (h : P s) : P (pushWord o w s) :=
  andThen_keeps P (hP.push o _ h) fun _ => hP.push o _ (hP.push o _ h)

theorem pull {s : State} (h : P s) : P (pull s).2 := hP.read _ (hP.setSp _ h)

theorem pullWord {s : State} (h : P s) : P (pullWord s).2 := by
  rw [pullWord_eq]
  exact hP.setSp _ h

theorem loadVector (v : Word) {s : State} (h : P s) : P (loadVector v s) :=
  hP.setPc _ (hP.read _ (hP.read _ h))

theorem takeException (o : Origin) (v : Word) (status : Byte) {s : State} (h : P s) :
    P (takeException o v status s) := by
  refine andThen_keeps P (hP.pushWord o _ h) fun _ => ?_
  have hw := hP.pushWord o s.cpu.pc h
  refine andThen_keeps P (hP.push o status hw) fun _ => hP.loadVector v (hP.cpu _ (fun hc => ?_) (hP.push o status hw))
  exact hc.setFlag (k := interruptBit) true (by decide) (by decide) (by decide)

theorem interruptEntry (o : Origin) (v : Word) {s : State} (h : P s) : P (interruptEntry o v s) :=
  andThen_keeps P (hP.takeException o v _ h) fun _ => hP.setCycles _ (hP.takeException o v _ h)

theorem returnFromException {s : State} (h : P s) : P (returnFromException s) := by
  rw [returnFromException_eq]
  exact hP.cpu _ (fun _ => Cpu.statusFixed_canonical s.cpu _) h

/-! The shapes of a meaning. -/

theorem resolvedAt (a : Word) (b : Bool) {s : State} (h : P s) : P (resolvedAt a b s).st := hP.cpu _ id h

theorem resolve (m : Mode) {s : State} (h : P s) : P (resolve m s).st := by
  cases m
  case acc => exact h
  case ind | izx | izy => exact hP.resolvedAt _ _ (hP.read _ (hP.read _ h))
  all_goals exact hP.resolvedAt _ _ h

theorem operand (m : Mode) {r : Resolved} (h : P r.st) : P (operand m r).2 := by
  cases m
  case acc | imm => exact h
  all_goals exact hP.read _ h

theorem finish (n : Nat) {s : State} (h : P s) : outHolds P (finish n s) :=
  outHolds_next (andThen_keeps P h fun _ => hP.setCycles _ h)

theorem readOp (m : Mode) (base : Nat) (e : Bool) {f : Cpu → Byte → Cpu}
    (hf : ∀ c v, c.statusFixed → (f c v).statusFixed) {s : State} (h : P s) : outHolds P (readOp m base e f s) :=
  hP.finish _ (hP.cpu _ (hf _ _) (hP.operand m (hP.resolve m h)))

theorem storeOp (m : Mode) (base : Nat) (v : Byte) {s : State} (h : P s) : outHolds P (storeOp m base v s) :=
  hP.finish _ (hP.write _ _ (hP.resolve m h))

theorem writeBack (m : Mode) (a : Word) (v : Byte) {s : State} (h : P s) : P (writeBack m a v s) := by
  cases m
  case acc => exact hP.cpu _ id h
  all_goals exact hP.write _ _ h

theorem modifyOp (m : Mode) (base : Nat) {f : Cpu → Byte → Byte × Cpu}
    (hf : ∀ c v, c.statusFixed → (f c v).2.statusFixed) {s : State} (h : P s) : outHolds P (modifyOp m base f s) :=
  hP.finish _ (hP.writeBack m _ _ (hP.cpu _ (hf _ _) (hP.operand m (hP.resolve m h))))

theorem registerOp (base : Nat) {f : Cpu → Cpu} (hf : ∀ c, c.statusFixed → (f c).statusFixed) {s : State} (h : P s) :
    outHolds P (registerOp base f s) :=
  hP.finish _ (hP.cpu _ (hf _) h)

theorem flagOp (k : Nat) (b : Bool) (hk : k < 8) (h4 : k ≠ 4) (h5 : k ≠ 5) {s : State} (h : P s) :
    outHolds P (Machine.registerOp 2 (fun c => c.setFlag k b) s) :=
  hP.registerOp 2 (fun _ hc => hc.setFlag b hk h4 h5) h

theorem branch (cond : Bool) (d : Byte) {s : State} (h : P s) : outHolds P (branch cond d s) := by
  have hr := hP.cpu (s.cpu.setAddrRel (sext16 d)) id h
  cases cond
  · exact hP.finish _ hr
  · exact hP.finish _ (hP.setPc _ hr)

/-! The families of instructions. -/

theorem execLoad {i : Instr} {x : Reg × Form} (hi : loadForm i = some x) {s : State} (h : P s) :
    outHolds P (Machine.exec i s) := by
  rw [exec_load hi]
  exact hP.readOp _ _ _ (fun _ _ hc => hc.load _ _) h

theorem execAdd {i : Instr} {x : Bool × Form} (hi : addForm i = some x) {s : State} (h : P s) :
    outHolds P (Machine.exec i s) := by
  rw [exec_add hi]
  exact hP.readOp _ _ _ (fun _ _ hc => hc.addWithCarry _) h

theorem execLogic {i : Instr} {x : Logic × Form} (hi : logicForm i = some x) {s : State} (h : P s) :
    outHolds P (Machine.exec i s) := by
  rw [exec_logic hi]
  exact hP.readOp _ _ _ (fun _ _ hc => hc.loadA _) h

theorem execCompare {i : Instr} {x : Reg × Form} (hi : compareForm i = some x) {s : State} (h : P s) :
    outHolds P (Machine.exec i s) := by
  rw [exec_compare hi]
  exact hP.readOp _ _ _ (fun _ _ hc => hc.compare _ _) h

theorem execStep {i : Instr} {x : Bool × Form} (hi : stepForm i = some x) {s : State} (h : P s) :
    outHolds P (Machine.exec i s) := by
  rw [exec_step hi]
  exact hP.modifyOp _ _ (fun _ _ hc => hc.incDec _ _) h

theorem execShift {i : Instr} {x : Shift × Form} (hi : shiftForm i = some x) {s : State} (h : P s) :
    outHolds P (Machine.exec i s) := by
  rw [exec_shift hi]
  exact hP.modifyOp _ _ (fun _ _ hc => hc.shift _ _) h

theorem execRegister {i : Instr} {s : State} {x : Byte × Reg × Byte} (hi : registerForm s.cpu i = some x) (h : P s) :
    outHolds P (Machine.exec i s) := by
  rw [exec_register s hi]
  exact hP.registerOp _ (fun _ hc => hc.load _ _) h

/-- Every instruction. -/
theorem exec (i : Instr) {s : State} (h : P s) : outHolds P (exec i s) := by
  cases i
  case ldaImm | ldaZp0 | ldaZpx | ldaAbs | ldaAbx | ldaAby | ldaIzx | ldaIzy | ldxImm | ldxZp0 | ldxZpy | ldxAbs
      | ldxAby | ldyImm | ldyZp0 | ldyZpx | ldyAbs | ldyAbx =>
    exact hP.execLoad rfl h
  case staZp0 | staZpx | staAbs | staAbx | staAby | staIzx | staIzy | stxZp0 | stxZpy | stxAbs | styZp0 | styZpx
      | styAbs =>
    exact hP.storeOp _ _ _ h
  case adcImm | adcZp0 | adcZpx | adcAbs | adcAbx | adcAby | adcIzx | adcIzy | sbcImm | sbcZp0 | sbcZpx | sbcAbs
      | sbcAbx | sbcAby | sbcIzx | sbcIzy =>
    exact hP.execAdd rfl h
  case andImm | andZp0 | andZpx | andAbs | andAbx | andAby | andIzx | andIzy | oraImm | oraZp0 | oraZpx | oraAbs
      | oraAbx | oraAby | oraIzx | oraIzy | eorImm | eorZp0 | eorZpx | eorAbs | eorAbx | eorAby | eorIzx
      | eorIzy =>
    exact hP.execLogic rfl h
  case cmpImm | cmpZp0 | cmpZpx | cmpAbs | cmpAbx | cmpAby | cmpIzx | cmpIzy | cpxImm | cpxZp0 | cpxAbs | cpyImm
      | cpyZp0 | cpyAbs =>
    exact hP.execCompare rfl h
  case bitZp0 | bitAbs => exact hP.readOp _ _ _ (fun _ _ hc => hc.bitTest _) h
  case incZp0 | incZpx | incAbs | incAbx | decZp0 | decZpx | decAbs | decAbx =>
    exact hP.execStep rfl h
  case aslAcc | aslZp0 | aslZpx | aslAbs | aslAbx | lsrAcc | lsrZp0 | lsrZpx | lsrAbs | lsrAbx | rolAcc | rolZp0
      | rolZpx | rolAbs | rolAbx | rorAcc | rorZp0 | rorZpx | rorAbs | rorAbx =>
    exact hP.execShift rfl h
  case jmpAbs | jmpInd => exact hP.finish _ (hP.setPc _ (hP.resolve _ h))
  case tax | tay | txa | tya | tsx | inx | iny | dex | dey =>
    exact hP.execRegister rfl h
  case txs => exact hP.registerOp 2 (f := fun c => c.setSp c.x) (fun _ hc => hc) h
  case nop => exact hP.registerOp 2 (fun _ hc => hc) h
  case clc | sec | cli | sei | clv | cld | sed =>
    exact hP.flagOp _ _ (by decide) (by decide) (by decide) h
  case bcc | bcs | beq | bne | bmi | bpl | bvc | bvs => exact hP.branch _ _ h
  case pha | php => exact hP.finish _ (hP.push _ _ h)
  case pla =>
    refine hP.finish 4 (hP.cpu _ (fun hc => ?_) (hP.pull h))
    exact hc.loadA _
  case plp =>
    refine hP.finish 4 (hP.cpu _ (fun _ => ?_) (hP.pull h))
    exact Cpu.statusFixed_canonical _ _
  case jsr a =>
    have hp := hP.pushWord (instrOrigin 3 s) (s.cpu.pc - 1#16) (hP.resolve (.abs a) h)
    exact hP.finish _ (andThen_keeps P hp fun _ => hP.setPc _ hp)
  case rts => exact hP.finish _ (hP.setPc _ (hP.pullWord h))
  case brk => exact hP.finish _ (hP.takeException _ _ _ (hP.setPc _ h))
  case rti => exact hP.finish _ (hP.returnFromException h)
  case illegal => exact outHolds_next (hP.stop _ h)

/-! The fetch and the CPU slot (46_bus_dma_controller.md R232). -/

theorem fetchByte {s : State} (h : P s) : P (fetchByte s).2 := hP.setPc _ (hP.read _ h)

theorem fetchBytes (n : Nat) {s : State} (h : P s) : P (fetchBytes n s).2 := by
  induction n generalizing s with
  | zero => exact h
  | succ n ih => exact ih (hP.fetchByte h)

theorem fetch {s : State} (h : P s) : P (fetch s).2 := hP.fetchBytes _ (hP.setOpcode _ (hP.fetchByte h))

theorem countCycle {s : State} (h : P s) : P (countCycle s) := andThen_keeps P h fun _ => hP.setCycles _ h

theorem cpuClock {s : State} (h : P s) : outHolds P (cpuClock s) := by
  unfold Machine.cpuClock
  split
  · exact outHolds_bindOut (hP.exec _ (hP.fetch h)) fun _ ht => outHolds_next (hP.countCycle ht)
  · exact outHolds_next (hP.countCycle h)

end CpuClosed

end Sys2Proof.Machine
end

section
/-! SUPPORT. The one traversal of the PPU's cycle and of the Bus step: a property that their elementary changes keep, every
PPU cycle and every Bus step keeps. -/

namespace Sys2Proof.Machine

/-! The PPU's cycle (48_ppu_rendering.md R344). -/

/-- A property of the PPU that the elementary changes of a PPU cycle keep. -/
structure ClockClosed (P : Ppu → Prop) : Prop where
  vram : ∀ {p} v, P p → P { p with vram := v }
  shifters : ∀ {p} a b c d, P p → P { p with shPatLo := a, shPatHi := b, shAttLo := c, shAttHi := d }
  tile : ∀ {p} i l m, P p → P { p with bgId := i, bgLsb := l, bgMsb := m }
  paletteBits : ∀ {p} v a, P p → P { p with bgAttrib := attributeBits v a }
  /-- R273: only the three status bits are written. -/
  status : ∀ {p} k b, k = overflowBit ∨ k = zeroHitBit ∨ k = vblankBit → P p →
    P { p with status := putBit p.status k b }
  slots : ∀ {p} l, l.length = p.spr.length → P p → P { p with spr := l }
  evaluated : ∀ {p} l n z, l.length = 8 → n ≤ 8 → P p → P { p with spr := l, sprCount := n, zeroPossible := z }
  skipped : ∀ {p}, P p → P { p with cycle := 1 }
  request : ∀ {p} b, P p → P { p with nmi := b }
  pixel : ∀ {p} z k c, k < 256 * 240 → c < 0x40#8 → P p →
    P { p with zeroRendered := z, frame := cellPut k c p.frame }
  position : ∀ {p}, P p → P (advancePosition p)

/-- A change of the slots below `sprite_count` keeps their number. -/
theorem mapActive_length (p : Ppu) (f : SpriteSlot → SpriteSlot) : (p.mapActive f).spr.length = p.spr.length := by
  simp only [Ppu.mapActive, List.length_append, List.length_map, List.length_take, List.length_drop]
  omega

/-- R334: the sprite buffer after evaluation has eight slots. -/
theorem evaluateSprites_length (p : Ppu) : (evaluateSprites p).spr.length = 8 ∧ (evaluateSprites p).sprCount ≤ 8 := by
  simp [evaluateSprites]

/-- R320, R341: the frame cell of a visible position lies in the frame. -/
theorem pixelKey_lt {x : Nat} {y : Int} (hx : x < 256) (hy : y ≤ 239) : pixelKey x y.toNat < 256 * 240 := by
  unfold pixelKey
  omega

/-- R341: a stored palette value has six bits. -/
theorem maskedPixel_lt (v : Byte) : v &&& 0x3F#8 < 0x40#8 := Nat.and_lt_two_pow (n := 6) _ (by decide)

namespace ClockClosed

variable {P : Ppu → Prop} (hP : ClockClosed P)
include hP

theorem oddSkip {p : Ppu} (h : P p) : P (oddSkip p) := by
  unfold Machine.oddSkip
  split
  · exact hP.skipped h
  · exact h

theorem preRenderClear {p : Ppu} (h : P p) : P (preRenderClear p) := by
  have hs := hP.slots (p.spr.map SpriteSlot.clearShifters) (List.length_map _) h
  have hv := hP.status vblankBit false (.inr (.inr rfl)) hs
  exact hP.status zeroHitBit false (.inr (.inl rfl)) (hP.status overflowBit false (.inl rfl) hv)

/-- One status bit set under a condition. -/
theorem statusIf (c : Prop) [Decidable c] {k : Nat} (hk : k = overflowBit ∨ k = zeroHitBit ∨ k = vblankBit) {p : Ppu}
    (h : P p) : P { p with status := if c then putBit p.status k true else p.status } := by
  split
  · exact hP.status k true hk h
  · exact h

theorem mapActive (f : SpriteSlot → SpriteSlot) {p : Ppu} (h : P p) : P (p.mapActive f) :=
  hP.slots _ (mapActive_length p f) h

theorem updateShifters {p : Ppu} (h : P p) : P (updateShifters p) := by
  have hb : P (applyIf p.renderBg shiftBackground p) := applyIf_keeps P h fun _ => hP.shifters _ _ _ _
  unfold Machine.updateShifters
  exact applyIf_keeps P hb fun _ => hP.mapActive SpriteSlot.tick

theorem loadBackgroundShifters {p : Ppu} (h : P p) : P (loadBackgroundShifters p) := hP.shifters _ _ _ _ h

theorem incrementScrollX {p : Ppu} (h : P p) : P (incrementScrollX p) := applyIf_keeps P h fun _ => hP.vram _

theorem incrementScrollY {p : Ppu} (h : P p) : P (incrementScrollY p) := applyIf_keeps P h fun _ => hP.vram _

theorem transferAddressX {p : Ppu} (h : P p) : P (transferAddressX p) := applyIf_keeps P h fun _ => hP.vram _

theorem transferAddressY {p : Ppu} (h : P p) : P (transferAddressY p) := applyIf_keeps P h fun _ => hP.vram _

theorem evaluateSprites {p : Ppu} (h : P p) : P (evaluateSprites p) := by
  obtain ⟨hl, hn⟩ := evaluateSprites_length p
  exact hP.evaluated (Machine.evaluateSprites p).spr _ (p.covers 0) hl hn
    (hP.statusIf (p.selected.length > 8) (.inl rfl) h)

theorem windowAction {s : State} (h : P s.ppu) : P (windowAction s).ppu := by
  unfold Machine.windowAction
  split
  · exact hP.tile _ _ _ (hP.loadBackgroundShifters h)
  · exact hP.paletteBits _ _ h
  · exact hP.tile _ _ _ h
  · exact hP.tile _ _ _ h
  · exact hP.incrementScrollX h
  · exact h

theorem fetchWork {s : State} (h : P s.ppu) : P (fetchWork s).ppu := by
  unfold Machine.fetchWork
  refine applyIf_keeps (fun s : State => P s.ppu) ?_ fun _ => hP.mapActive _
  refine applyIf_keeps P ?_ fun _ hp => hP.evaluateSprites hp
  refine applyIf_keeps P ?_ fun _ hp => hP.transferAddressY hp
  refine applyIf_keeps P (f := fun p => Machine.transferAddressX (Machine.loadBackgroundShifters p)) ?_ fun _ hp =>
    hP.transferAddressX (hP.loadBackgroundShifters hp)
  refine applyIf_keeps P ?_ fun _ hp => hP.incrementScrollY hp
  refine applyIf_keeps (fun s : State => P s.ppu) ?_ fun _ hs => hP.windowAction (hP.updateShifters hs)
  refine applyIf_keeps P ?_ fun _ hp => hP.preRenderClear hp
  exact hP.oddSkip h

theorem composePixel {s : State} (hy : s.ppu.scanline ≤ 239) (hx : s.ppu.cycle ≤ 256) (h : P s.ppu) :
    P (composePixel s).ppu := by
  have hk : pixelKey (s.ppu.cycle - 1) s.ppu.scanline.toNat < 256 * 240 := pixelKey_lt (by omega) hy
  exact hP.pixel s.ppu.zeroShown _ _ hk (maskedPixel_lt _) (hP.statusIf (s.ppu.zeroHit = true) (.inr (.inl rfl)) h)

theorem beginVblank {p : Ppu} (h : P p) : P (beginVblank p) :=
  hP.request _ (hP.status _ true (.inr (.inr rfl)) h)

/-- The whole cycle. -/
theorem ppuClock {s : State} (h : P s.ppu) : P (ppuClock s).ppu := by
  unfold Machine.ppuClock
  refine hP.position ?_
  refine applyIf_keeps (fun s : State => P s.ppu) ?_ fun _ hs => by rwa [mapperTick_frame]
  refine applyIf_keeps (fun s : State => P s.ppu) ?_ fun hv => ?_
  · refine applyIf_keeps P ?_ fun _ hp => hP.beginVblank hp
    exact applyIf_keeps (fun s : State => P s.ppu) h fun _ => hP.fetchWork
  · simp only [Ppu.visibleLine, Bool.and_eq_true, decide_eq_true_eq] at hv
    obtain ⟨⟨⟨-, hy⟩, -⟩, hx⟩ := hv
    exact hP.composePixel hy hx

end ClockClosed

/-- R343: the mapper after a tick that may come. -/
theorem mapperTickIf_mapper (c : Bool) {s : State} {m : Mapper} (h : s.mapper = m) :
    (applyIf c mapperTick s).mapper = m ∨ (applyIf c mapperTick s).mapper = m.onScanline := by
  subst h
  unfold applyIf mapperTick applyIf
  split
  · split
    · exact .inr rfl
    · exact .inl rfl
  · exact .inl rfl

/-- R343: the mapper after a PPU cycle. -/
theorem ppuClock_mapper (s : State) :
    (ppuClock s).mapper = s.mapper ∨ (ppuClock s).mapper = s.mapper.onScanline := by
  have hw : (applyIf s.ppu.fetchLine fetchWork s).mapper = s.mapper :=
    applyIf_proj (fun t : State => t.mapper) _ _ (by rw [fetchWork_frame]; rfl)
  have hc : ∀ c, (applyIf c composePixel ((applyIf s.ppu.fetchLine fetchWork s).onPpu fun p =>
      applyIf (p.at 241 1) beginVblank p)).mapper = s.mapper :=
    fun c => (applyIf_proj (fun t : State => t.mapper) c _ rfl).trans hw
  exact mapperTickIf_mapper _ (hc _)

/-! The Bus step (46_bus_dma_controller.md R230). -/

/-- A property that the parts of a Bus step keep: the CPU's elementary changes, the PPU's cycle, a slot of a transfer, the
withdrawal of a request, and the count of the step. -/
structure StepClosed (P : State → Prop) : Prop extends CpuClosed P where
  ppu : ∀ {s}, P s → P (ppuClock s)
  transfer : ∀ {s}, s.dma.active = true → P s → P (dmaSlot s)
  nmi : ∀ {s}, P s → P (s.onPpu fun p => { p with nmi := false })
  irq : ∀ {s}, P s → P (s.setMapper s.mapper.clearInterrupt)
  clk : ∀ {s} n, P s → P (s.setClk n)

namespace StepClosed

variable {P : State → Prop} (hP : StepClosed P)
include hP

theorem slot {s : State} (h : P s) : outHolds P (slot s) := by
  unfold Machine.slot
  split
  · exact outHolds_next (hP.transfer ‹_› h)
  · exact hP.cpuClock h

theorem cpuIrq {s : State} (h : P s) : P (cpuIrq s) := by
  unfold Machine.cpuIrq
  split
  · exact h
  · exact hP.interruptEntry _ _ h

theorem routeNmi {s : State} (h : P s) : P (routeNmi s) :=
  applyIf_keeps P h fun _ hs => hP.interruptEntry _ _ (hP.nmi hs)

theorem routeIrq (held : Bool) {s : State} (h : P s) : P (routeIrq held s) :=
  applyIf_keeps P h fun _ hs => applyIf_keeps P (hP.irq hs) fun _ => hP.cpuIrq

theorem endStep (held : Bool) {s : State} (h : P s) : P (endStep held s) := by
  refine andThen_keeps P h fun _ => ?_
  refine andThen_keeps P (hP.routeNmi h) fun _ => ?_
  exact andThen_keeps P (hP.routeIrq held (hP.routeNmi h)) fun _ => hP.clk _ (hP.routeIrq held (hP.routeNmi h))

/-- The whole step. -/
theorem busStep {s : State} (h : P s) : outHolds P (busStep s) := by
  unfold Machine.busStep
  split
  · exact outHolds_next h
  · refine outHolds_bindOut ?_ fun _ ht => outHolds_next (hP.endStep _ ht)
    split
    · exact hP.slot (hP.ppu h)
    · exact outHolds_next (hP.ppu h)

end StepClosed

/-- Going on after an outcome gives a next state only after a next state. -/
theorem bindOut_cases {o : Out} {f : State → Out} {t : State} (h : bindOut o f = .next t) : ∃ u, f u = .next t := by
  cases o with
  | next u => exact ⟨u, h⟩
  | fault r => cases h
  | refused r => cases h

/-- R230: a step answers the state as it stands after a fatal condition, and otherwise the end of a Bus step. -/
theorem busStep_cases {s t : State} (h : busStep s = .next t) :
    (s.fatal ≠ none ∧ t = s) ∨ ∃ held u, t = endStep held u := by
  unfold busStep at h
  split at h
  · rename_i x hf
    cases h
    exact .inl ⟨by simp [hf], rfl⟩
  · obtain ⟨u, hu⟩ := bindOut_cases h
    cases hu
    exact .inr ⟨_, _, rfl⟩

end Sys2Proof.Machine
end

section
/-! SUPPORT. A step with the host's moves before it: an invariant of the block that the moves and the Bus step keep holds of
the block and of every saved state after the step, and no step writes the parameters. -/

namespace Sys2Proof.Machine

/-! What a Bus step leaves alone. -/

theorem dmaSlot_params_saves (s : State) : (dmaSlot s).params = s.params ∧ (dmaSlot s).saves = s.saves := by
  unfold dmaSlot
  split
  · split
    · exact ⟨rfl, rfl⟩
    · exact ⟨rfl, rfl⟩
  · split
    · exact ⟨memRead_params _ _, memRead_saves _ _⟩
    · exact ⟨rfl, rfl⟩

/-- No part of a Bus step writes the parameters or the saved states. -/
theorem params_saves_closed (p : Params) (bs : List Block) : StepClosed fun s => s.params = p ∧ s.saves = bs where
  read := fun _ h => by simpa using h
  write := fun _ _ h => by simpa using h
  cpu := fun _ _ h => h
  stop := fun _ h => h
  ppu := fun h => by simpa using h
  transfer := fun {s} _ h => by
    obtain ⟨hp, hs⟩ := dmaSlot_params_saves s
    exact ⟨hp.trans h.1, hs.trans h.2⟩
  nmi := fun h => h
  irq := fun h => h
  clk := fun _ h => h

theorem busStep_params_saves {s t : State} (h : busStep s = .next t) : t.params = s.params ∧ t.saves = s.saves :=
  (params_saves_closed s.params s.saves).busStep ⟨rfl, rfl⟩ t h

/-! Initialisation (70_reset_and_hazards.md R450 to R457). -/

/-- R452: the reset vector lies in the cartridge, so reading it changes nothing. -/
theorem memRead16_resetVector (s : State) : (memRead16 0xFFFC#16 s).2 = s := by
  unfold memRead16
  dsimp only
  rw [memRead_memory _ _ (.inr (by decide)), memRead_memory _ _ (.inr (by decide))]

/-- R451, R452: the CPU after a reset, its `pc` the reset vector. -/
theorem initCpu_eq (s : State) :
    initCpu s = (s.setCpu (Cpu.reset s.params (memRead16 0xFFFC#16 s).1)).setFatal none := by
  unfold initCpu
  dsimp only
  rw [memRead16_resetVector]

/-- R450: the state after a reset. -/
theorem warmReset_eq (s : State) :
    warmReset s = initCpu (initBus (initPpu (initPads (initCartridge s)))) := rfl

theorem warmReset_params (s : State) : (warmReset s).params = s.params := by
  simp [warmReset_eq, initCpu_eq, initBus, initPpu, initPads, initCartridge]

theorem warmReset_saves (s : State) : (warmReset s).saves = s.saves := by
  simp [warmReset_eq, initCpu_eq, initBus, initPpu, initPads, initCartridge]

/-- R454, R455, R457: the memories after a reset. -/
theorem warmReset_memories (s : State) :
    (warmReset s).ram = s.ram ∧ (warmReset s).prgRam = s.params.initial.prgRam ∧
    (warmReset s).chrRam = s.params.initial.chrRam ∧
    (warmReset s).ppu = Ppu.reset s.ppu.nt0 s.ppu.nt1 s.ppu.pal s.ppu.oam := by
  simp [warmReset_eq, initCpu_eq, initBus, initPpu, initPads, initCartridge]

/-- R451, R453, R400: the registers outside the PPU after a reset. -/
theorem warmReset_registers (s : State) :
    (∃ pc, (warmReset s).cpu = Cpu.reset s.params pc) ∧ (warmReset s).dma = Dma.reset ∧
    (warmReset s).mapper = Mapper.powerOn s.cart.mapperId ∧ (warmReset s).cart = s.cart := by
  simp [warmReset_eq, initCpu_eq, initBus, initPpu, initPads, initCartridge]

theorem powerOn_params (c : Cartridge) (s : State) : (powerOn c s).params = s.params := warmReset_params _

theorem powerOn_saves (c : Cartridge) (s : State) : (powerOn c s).saves = s.saves := warmReset_saves _

/-! The host's moves (46_bus_dma_controller.md R249). -/

/-- An invariant of the block, under parameters `p`, that the host's inputs and the two initialisations keep. -/
structure HostClosed (p : Params) (Q : Block → Prop) : Prop where
  pads : ∀ {b : Block} v, Q b → Q { b with pads := v }
  frameComplete : ∀ {b : Block} v, Q b → Q { b with ppu := { b.ppu with frameComplete := v } }
  reset : ∀ {s : State}, s.params = p → Q s.toBlock → Q (warmReset s).toBlock
  load : ∀ {s : State} c, s.params = p → Q (powerOn c s).toBlock

/-- The parameters are `p`, and the block and every saved state satisfy `Q`. -/
structure HeldUnder (p : Params) (Q : Block → Prop) (s : State) : Prop where
  params : s.params = p
  block : Q s.toBlock
  saves : ∀ b ∈ s.saves, Q b

theorem HeldUnder.everywhere {p : Params} {Q : Block → Prop} {s : State} (h : HeldUnder p Q s) : s.everywhere Q :=
  ⟨h.block, h.saves⟩

theorem HeldUnder.of_kept {p : Params} {Q : Block → Prop} {s t : State} (h : HeldUnder p Q s)
    (hp : t.params = s.params) (hs : t.saves = s.saves) (hb : Q t.toBlock) : HeldUnder p Q t :=
  ⟨hp.trans h.params, hb, fun b hm => h.saves b (hs ▸ hm)⟩

namespace HostClosed

variable {p : Params} {Q : Block → Prop} (hQ : HostClosed p Q)
include hQ

theorem applyMove (m : HostMove) {s : State} (h : HeldUnder p Q s) : HeldUnder p Q (applyMove s m) := by
  have ⟨hp, hb, hs⟩ := h
  cases m
  case buttons b1 b2 => exact ⟨hp, hQ.pads _ hb, hs⟩
  case clearFrameComplete => exact ⟨hp, hQ.frameComplete _ hb, hs⟩
  case reset => exact h.of_kept (warmReset_params s) (warmReset_saves s) (hQ.reset hp hb)
  case load image =>
    unfold Machine.applyMove
    dsimp only
    split
    · exact h.of_kept (powerOn_params _ s) (powerOn_saves _ s) (hQ.load _ hp)
    · exact h
  case save => exact ⟨hp, hb, List.forall_mem_cons.mpr ⟨hb, hs⟩⟩
  case restore k =>
    unfold Machine.applyMove
    dsimp only
    split
    · rename_i b hk
      exact applyIf_keeps (HeldUnder p Q) h fun _ _ => ⟨hp, hQ.pads _ (hs b (List.mem_of_getElem? hk)), hs⟩
    · exact h

theorem takeHost {s : State} (h : HeldUnder p Q s) : HeldUnder p Q (takeHost s) := by
  unfold Machine.takeHost
  split
  · exact h
  · rename_i ms rest hq
    clear hq
    have hr : HeldUnder p Q (s.setHostQueue rest) := h.of_kept rfl rfl h.block
    generalize s.setHostQueue rest = u at hr
    induction ms generalizing u with
    | nil => exact hr
    | cons m ms ih => exact ih _ (hQ.applyMove m hr)

/-- R230, R249: an invariant that the host's moves and the Bus step keep, every step keeps, with the parameters. -/
theorem step (hB : ∀ {u v : State}, Q u.toBlock → busStep u = .next v → Q v.toBlock) {s t : State}
    (hp : s.params = p) (h : s.everywhere Q) (ht : step s = .next t) : t.params = s.params ∧ t.everywhere Q := by
  have hu := hQ.takeHost ⟨hp, h.1, h.2⟩
  unfold Machine.step guardedStep at ht
  split at ht
  · cases ht
  · obtain ⟨htp, hts⟩ := busStep_params_saves ht
    have hv := hu.of_kept htp hts (hB hu.block ht)
    exact ⟨hv.params.trans hp.symm, hv.everywhere⟩

end HostClosed

end Sys2Proof.Machine
end

section
/-! SUPPORT. The memories and the frame: canonical form and size through every part of a step (10_state.md R19, R22, R26,
R29, R30). -/

namespace Sys2Proof.Machine

theorem Memory.sound.write {m : Memory} {n : Nat} (h : m.sound n) {a : Nat} (ha : a < n) (v : Byte) :
    (m.write a v).sound n :=
  ⟨Memory.wf_write h.1 a v, Memory.below_write h.2 ha v⟩

/-- R67: a palette entry. -/
theorem palIndex_lt (a : Nat) : palIndex a < 0x20 := by
  unfold palIndex
  dsimp only
  split <;> omega

/-! The PPU's part. -/

/-- The PPU's memories and its frame, in canonical form and in size. -/
structure Ppu.sound (p : Ppu) : Prop where
  nt0 : p.nt0.sound 0x400
  nt1 : p.nt1.sound 0x400
  pal : p.pal.sound 0x20
  oam : p.oam.sound 0x100
  rise : cellsRise none p.frame = true
  inFrame : p.frame.all (fun c => c.1 < 256 * 240 && c.2 < 0x40#8) = true

/-- A change of the PPU's registers alone. -/
theorem Ppu.sound.of_eq {p q : Ppu} (h : p.sound) (h0 : q.nt0 = p.nt0) (h1 : q.nt1 = p.nt1) (hp : q.pal = p.pal)
    (ho : q.oam = p.oam) (hf : q.frame = p.frame) : q.sound := by
  obtain ⟨nt0, nt1, pal, oam, rise, inFrame⟩ := h
  exact ⟨h0 ▸ nt0, h1 ▸ nt1, hp ▸ pal, ho ▸ oam, hf ▸ rise, hf ▸ inFrame⟩

theorem Ppu.sound.oamWrite {p : Ppu} (h : p.sound) (a : Byte) (v : Byte) : { p with oam := p.oam.write a.toNat v }.sound :=
  ⟨h.nt0, h.nt1, h.pal, h.oam.write a.isLt v, h.rise, h.inFrame⟩

theorem Ppu.sound.ntWrite {p : Ppu} (h : p.sound) (mir : Mirror) (a : Nat) (v : Byte) : (ntWrite mir p a v).sound := by
  have ha : a % 0x400 < 0x400 := Nat.mod_lt _ (by decide)
  unfold Machine.ntWrite
  split
  · exact ⟨h.nt0.write ha v, h.nt1, h.pal, h.oam, h.rise, h.inFrame⟩
  · exact ⟨h.nt0, h.nt1.write ha v, h.pal, h.oam, h.rise, h.inFrame⟩

/-- R341: a stored pixel lies in the frame and has six bits. -/
theorem Ppu.sound.pixel {p : Ppu} (h : p.sound) (z : Bool) {k : Nat} {c : Byte} (hk : k < 256 * 240) (hc : c < 0x40#8) :
    { p with zeroRendered := z, frame := cellPut k c p.frame }.sound :=
  ⟨h.nt0, h.nt1, h.pal, h.oam, cellsRise_cellPut h.rise rfl, all_cellPut h.inFrame (by simp [hk, hc])⟩

theorem advancePosition_sound {p : Ppu} (h : p.sound) : (advancePosition p).sound := by
  unfold advancePosition
  split
  · split
    · exact h.of_eq rfl rfl rfl rfl rfl
    · exact h.of_eq rfl rfl rfl rfl rfl
  · exact h.of_eq rfl rfl rfl rfl rfl

theorem sound_clockClosed : ClockClosed Ppu.sound where
  vram := fun _ h => h.of_eq rfl rfl rfl rfl rfl
  shifters := fun _ _ _ _ h => h.of_eq rfl rfl rfl rfl rfl
  tile := fun _ _ _ h => h.of_eq rfl rfl rfl rfl rfl
  paletteBits := fun _ _ h => h.of_eq rfl rfl rfl rfl rfl
  status := fun _ _ _ h => h.of_eq rfl rfl rfl rfl rfl
  slots := fun _ _ h => h.of_eq rfl rfl rfl rfl rfl
  evaluated := fun _ _ _ _ _ h => h.of_eq rfl rfl rfl rfl rfl
  skipped := fun h => h.of_eq rfl rfl rfl rfl rfl
  request := fun _ h => h.of_eq rfl rfl rfl rfl rfl
  pixel := fun z _ _ hk hc h => h.pixel z hk hc
  position := advancePosition_sound

/-! The Bus. -/

/-- `Block.memoriesHold`, part by part. -/
structure Block.sound (b : Block) : Prop where
  ram : b.ram.sound 0x800
  prgRam : b.prgRam.sound 0x2000
  chrRam : b.chrRam.sound 0x2000
  ppu : b.ppu.sound

theorem memoriesHold_iff (b : Block) : b.memoriesHold ↔ b.sound := by
  constructor
  · rintro ⟨⟨hram, h0, h1, hpal, hoam, hprg, hchr⟩, hrise, hin⟩
    exact ⟨hram, hprg, hchr, h0, h1, hpal, hoam, hrise, hin⟩
  · rintro ⟨hram, hprg, hchr, h0, h1, hpal, hoam, hrise, hin⟩
    exact ⟨⟨hram, h0, h1, hpal, hoam, hprg, hchr⟩, hrise, hin⟩

theorem memoriesHold_eq : Block.memoriesHold = Block.sound := funext fun b => propext (memoriesHold_iff b)

/-- A change that leaves the memories outside the PPU alone. -/
theorem Block.sound.of_eq {b c : Block} (h : b.sound) (hr : c.ram = b.ram) (hp : c.prgRam = b.prgRam)
    (hc : c.chrRam = b.chrRam) (hq : c.ppu.sound) : c.sound :=
  ⟨hr ▸ h.ram, hp ▸ h.prgRam, hc ▸ h.chrRam, hq⟩

theorem setPpu_sound {s : State} (h : s.sound) {p : Ppu} (hp : p.sound) : (s.setPpu p).sound :=
  h.of_eq rfl rfl rfl hp

theorem memRead_sound (a : Word) {s : State} (h : s.sound) : (memRead a s).2.sound :=
  h.of_eq (memRead_ram a s) (memRead_prgRam a s) (memRead_chrRam a s)
    (h.ppu.of_eq (by simp) (by simp) (by simp) (by simp) (by simp))

theorem cartPpuWrite_sound (a : Nat) (v : Byte) {s : State} (h : s.sound) :
    (cartPpuWrite s a v).sound := by
  unfold cartPpuWrite
  split
  · exact ⟨h.ram, h.prgRam, h.chrRam.write (Nat.mod_lt _ (by decide)) v, h.ppu⟩
  · exact h

theorem ppuWrite_sound (a : Nat) (v : Byte) {s : State} (h : s.sound) : (ppuWrite s a v).sound := by
  unfold ppuWrite
  dsimp only
  split
  · exact cartPpuWrite_sound _ v h
  · split
    · exact setPpu_sound h (h.ppu.ntWrite _ _ v)
    · obtain ⟨nt0, nt1, pal, oam, rise, inFrame⟩ := h.ppu
      exact setPpu_sound h ⟨nt0, nt1, pal.write (palIndex_lt _) v, oam, rise, inFrame⟩

theorem portWrite_sound (k : Nat) (v : Byte) {s : State} (h : s.sound) :
    (portWrite s k v).sound := by
  have hreg : ∀ {p : Ppu}, p.nt0 = s.ppu.nt0 → p.nt1 = s.ppu.nt1 → p.pal = s.ppu.pal → p.oam = s.ppu.oam →
      p.frame = s.ppu.frame → (s.setPpu p).sound :=
    fun h0 h1 hp ho hf => setPpu_sound h (h.ppu.of_eq h0 h1 hp ho hf)
  unfold portWrite
  split
  · exact hreg rfl rfl rfl rfl rfl
  · exact hreg rfl rfl rfl rfl rfl
  · exact h
  · exact hreg rfl rfl rfl rfl rfl
  · exact setPpu_sound h ((h.ppu.oamWrite _ v).of_eq rfl rfl rfl rfl rfl)
  · unfold scrollWrite
    split <;> exact hreg rfl rfl rfl rfl rfl
  · unfold addressWrite
    split <;> exact hreg rfl rfl rfl rfl rfl
  · have hw := ppuWrite_sound s.ppu.vram.toNat v h
    exact setPpu_sound hw (hw.ppu.of_eq rfl rfl rfl rfl rfl)

theorem regWrite_sound (a : Nat) (v : Byte) {s : State} (h : s.sound) : (regWrite s a v).sound := by
  unfold regWrite
  split <;> exact h.of_eq rfl rfl rfl h.ppu

theorem cartWrite_sound (a : Nat) (v : Byte) {s : State} (h : s.sound) :
    (cartWrite s a v).sound := by
  unfold cartWrite
  split
  · exact ⟨h.ram, h.prgRam.write (Nat.mod_lt _ (by decide)) v, h.chrRam, h.ppu⟩
  · exact regWrite_sound a v h

theorem memWrite_sound (a : Word) (v : Byte) {s : State} (h : s.sound) : (memWrite a v s).sound := by
  unfold memWrite
  dsimp only
  split
  · exact ⟨h.ram.write (Nat.mod_lt _ (by decide)) v, h.prgRam, h.chrRam, h.ppu⟩
  split
  · exact portWrite_sound _ v h
  iterate 4
    split
    · exact h.of_eq rfl rfl rfl h.ppu
  exact cartWrite_sound _ v h

/-! The step. -/

theorem dmaSlot_sound {s : State} (h : s.sound) : (dmaSlot s).sound := by
  unfold dmaSlot
  split
  · split
    · exact h.of_eq rfl rfl rfl h.ppu
    · exact h
  · split
    · have hr := memRead_sound (mkWord s.dma.page s.dma.offset) h
      exact hr.of_eq rfl rfl rfl hr.ppu
    · exact h.of_eq rfl rfl rfl (h.ppu.oamWrite _ _)

theorem ppuClock_sound {s : State} (h : s.sound) : (ppuClock s).sound :=
  h.of_eq (ppuClock_ram s) (ppuClock_prgRam s) (ppuClock_chrRam s) (sound_clockClosed.ppuClock h.ppu)

theorem sound_stepClosed : StepClosed fun s => s.sound where
  read := fun a => memRead_sound a
  write := fun a v => memWrite_sound a v
  cpu := fun _ _ h => h.of_eq rfl rfl rfl h.ppu
  stop := fun _ h => h.of_eq rfl rfl rfl h.ppu
  ppu := ppuClock_sound
  transfer := fun _ => dmaSlot_sound
  nmi := fun h => setPpu_sound h (h.ppu.of_eq rfl rfl rfl rfl rfl)
  irq := fun h => h.of_eq rfl rfl rfl h.ppu
  clk := fun _ h => h.of_eq rfl rfl rfl h.ppu

/-- R454: a reset empties the frame and keeps the PPU's memories. -/
theorem Ppu.reset_sound {nt0 nt1 pal oam : Memory} (h0 : nt0.sound 0x400) (h1 : nt1.sound 0x400) (hp : pal.sound 0x20)
    (ho : oam.sound 0x100) : (Ppu.reset nt0 nt1 pal oam).sound :=
  ⟨h0, h1, hp, ho, rfl, rfl⟩

/-- R455: a reset installs `RAM_INIT` in the cartridge's RAMs. -/
theorem warmReset_sound {s : State} (hi : contentsSound s.params.initial) (hram : s.ram.sound 0x800)
    (hppu : (Ppu.reset s.ppu.nt0 s.ppu.nt1 s.ppu.pal s.ppu.oam).sound) : (warmReset s).sound := by
  obtain ⟨-, -, -, -, -, hprg, hchr⟩ := hi
  obtain ⟨er, ep, ec, eq⟩ := warmReset_memories s
  constructor
  · rwa [er]
  · rwa [ep]
  · rwa [ec]
  · rwa [eq]

/-- R457: a power-on installs `RAM_INIT` and `OAM_INIT` in every memory. -/
theorem powerOn_sound {s : State} (hi : contentsSound s.params.initial) (c : Cartridge) : (powerOn c s).sound := by
  have ⟨hram, h0, h1, hpal, hoam, _, _⟩ := hi
  exact warmReset_sound (s := initMemories (s.setCart c)) hi hram (Ppu.reset_sound h0 h1 hpal hoam)

theorem sound_hostClosed {p : Params} (hi : contentsSound p.initial) : HostClosed p Block.sound where
  pads := fun _ h => h.of_eq rfl rfl rfl h.ppu
  frameComplete := fun _ h => h.of_eq rfl rfl rfl (h.ppu.of_eq rfl rfl rfl rfl rfl)
  reset := fun hp h =>
    warmReset_sound (hp ▸ hi) h.ram (Ppu.reset_sound h.ppu.nt0 h.ppu.nt1 h.ppu.pal h.ppu.oam)
  load := fun c hp => powerOn_sound (hp ▸ hi) c

/-- Settles O58: the host's moves and every part of a Bus step keep the canonical form and the size of each memory. -/
theorem stepKeepsMemories : Obligations.StepKeepsMemories := by
  intro s t hi h ht
  rw [memoriesHold_eq] at h ⊢
  exact (sound_hostClosed hi).step (fun hu hv => sound_stepClosed.busStep hu _ hv) rfl h ht

end Sys2Proof.Machine
end

section
/-! SUPPORT. The registers: the fixed bits of `P`, the PPU's ranges, the mapper's variant, the DMA record and the routed
requests through every part of a step (10_state.md R14, R28, R30). -/

namespace Sys2Proof.Machine

/-! The PPU's ranges (48_ppu_rendering.md R320, R334, 47_ppu_registers_memory.md R273). -/

/-- `Block.ppuInRange` of a PPU record. -/
structure Ppu.inRange (p : Ppu) : Prop where
  top : -1 ≤ p.scanline
  bottom : p.scanline ≤ 260
  cycle : p.cycle ≤ 340
  slots : p.spr.length = 8
  count : p.sprCount ≤ 8
  palette : p.bgAttrib.toNat < 4
  status : p.status &&& 0x1F#8 = 0x00#8

theorem ppuInRange_iff (b : Block) : b.ppuInRange ↔ b.ppu.inRange :=
  ⟨fun ⟨ht, hb, hc, hl, hn, ha, hs⟩ => ⟨ht, hb, hc, hl, hn, ha, hs⟩,
    fun ⟨ht, hb, hc, hl, hn, ha, hs⟩ => ⟨ht, hb, hc, hl, hn, ha, hs⟩⟩

/-- A change of the PPU's other registers and of its memories. -/
theorem Ppu.inRange.of_eq {p q : Ppu} (h : p.inRange) (hl : q.scanline = p.scanline) (hc : q.cycle = p.cycle)
    (hd : q.spr = p.spr) (hn : q.sprCount = p.sprCount) (ha : q.bgAttrib = p.bgAttrib) (hs : q.status = p.status) :
    q.inRange := by
  obtain ⟨top, bottom, cycle, slots, count, palette, status⟩ := h
  exact ⟨hl ▸ top, hl ▸ bottom, hc ▸ cycle, hd ▸ slots, hn ▸ count, ha ▸ palette, hs ▸ status⟩

/-- R273: writing one of the three status bits leaves the reserved ones 0. -/
theorem putBit_reserved {v : Byte} (h : v &&& 0x1F#8 = 0x00#8) {k : Nat} (b : Bool)
    (hk : k = overflowBit ∨ k = zeroHitBit ∨ k = vblankBit) : putBit v k b &&& 0x1F#8 = 0x00#8 := by
  have hk8 : k < 8 ∧ (0x1F#8).getLsbD k = false := by rcases hk with rfl | rfl | rfl <;> decide
  apply BitVec.eq_of_getLsbD_eq
  intro j _
  rw [BitVec.getLsbD_and, putBit_getLsbD _ _ _ hk8.1]
  split
  · rename_i e
    rw [e, hk8.2, Bool.and_false]
    simp
  · rw [← BitVec.getLsbD_and, h]

theorem Ppu.inRange.statusBit {p : Ppu} (h : p.inRange) {k : Nat} (b : Bool)
    (hk : k = overflowBit ∨ k = zeroHitBit ∨ k = vblankBit) : { p with status := putBit p.status k b }.inRange :=
  ⟨h.top, h.bottom, h.cycle, h.slots, h.count, h.palette, putBit_reserved h.status b hk⟩

/-- R326: a palette number has two bits. -/
theorem attributeBits_lt (v : BitVec 15) (a : Byte) : (attributeBits v a).toNat < 4 :=
  Nat.and_lt_two_pow (n := 2) _ (by decide)

/-- R320: the position after a PPU cycle. -/
theorem advancePosition_inRange {p : Ppu} (h : p.inRange) : (advancePosition p).inRange := by
  obtain ⟨top, bottom, cycle, slots, count, palette, status⟩ := h
  unfold advancePosition
  split
  · split
    · exact ⟨by simp, by simp, by simp, slots, count, palette, status⟩
    · exact ⟨by dsimp only; omega, by dsimp only; omega, by simp, slots, count, palette, status⟩
  · exact ⟨top, bottom, by dsimp only; omega, slots, count, palette, status⟩

theorem inRange_clockClosed : ClockClosed Ppu.inRange where
  vram := fun _ h => h.of_eq rfl rfl rfl rfl rfl rfl
  shifters := fun _ _ _ _ h => h.of_eq rfl rfl rfl rfl rfl rfl
  tile := fun _ _ _ h => h.of_eq rfl rfl rfl rfl rfl rfl
  paletteBits := fun v a h => ⟨h.top, h.bottom, h.cycle, h.slots, h.count, attributeBits_lt v a, h.status⟩
  status := fun _ b hk h => h.statusBit b hk
  slots := fun _ hl h => ⟨h.top, h.bottom, h.cycle, hl.trans h.slots, h.count, h.palette, h.status⟩
  evaluated := fun _ _ _ hl hn h => ⟨h.top, h.bottom, h.cycle, hl, hn, h.palette, h.status⟩
  skipped := fun h => ⟨h.top, h.bottom, by simp, h.slots, h.count, h.palette, h.status⟩
  request := fun _ h => h.of_eq rfl rfl rfl rfl rfl rfl
  pixel := fun _ _ _ _ _ h => h.of_eq rfl rfl rfl rfl rfl rfl
  position := advancePosition_inRange

/-- R283 to R286: a Bus read clears at most the vertical-blank flag. -/
theorem memRead_inRange (a : Word) {s : State} (h : s.ppu.inRange) : (memRead a s).2.ppu.inRange := by
  rcases memRead_ppu a s with e | e | ⟨b, v, e⟩
  · rw [e]
    exact h
  · rw [e]
    exact (h.statusBit (k := vblankBit) false (.inr (.inr rfl))).of_eq rfl rfl rfl rfl rfl rfl
  · rw [e]
    exact h.of_eq rfl rfl rfl rfl rfl rfl

theorem ntWrite_inRange (mir : Mirror) (a : Nat) (v : Byte) {p : Ppu} (h : p.inRange) : (ntWrite mir p a v).inRange := by
  unfold ntWrite
  split
  · exact h.of_eq rfl rfl rfl rfl rfl rfl
  · exact h.of_eq rfl rfl rfl rfl rfl rfl

/-! The mapper (49_mappers_cartridge.md R376, R379). -/

/-- `Block.mapperLegal` of a mapper, for the cartridge's variant. -/
structure Mapper.legal (m : Mapper) (i : MapperId) : Prop where
  variant : m.id = i
  banks : ∀ r, m = .mmc3 r → r.reg.length = 8
  serial : ∀ r, m = .mmc1 r → r.shiftCount < 5

theorem mapperLegal_iff (b : Block) : b.mapperLegal ↔ b.mapper.legal b.cart.mapperId :=
  ⟨fun ⟨hv, hb, hs⟩ => ⟨hv, hb, hs⟩, fun ⟨hv, hb, hs⟩ => ⟨hv, hb, hs⟩⟩

theorem Mapper.legal_mmc1 {r : Mmc1} (h : r.shiftCount < 5) : (Mapper.mmc1 r).legal .mmc1 :=
  ⟨rfl, nofun, fun _ e => by cases e; exact h⟩

theorem Mapper.legal_mmc3 {r : Mmc3} (h : r.reg.length = 8) : (Mapper.mmc3 r).legal .mmc3 :=
  ⟨rfl, fun _ e => by cases e; exact h, nofun⟩

/-- R400: the mapper at power-on. -/
theorem powerOn_legal (i : MapperId) : (Mapper.powerOn i).legal i := by
  cases i
  case mmc1 => exact Mapper.legal_mmc1 (by decide)
  case mmc3 => exact Mapper.legal_mmc3 rfl
  all_goals exact ⟨rfl, nofun, nofun⟩

/-- R394: the scanline counter. -/
theorem Mapper.legal.onScanline {m : Mapper} {i : MapperId} (h : m.legal i) : m.onScanline.legal i := by
  cases m
  case mmc3 r =>
    obtain ⟨rfl, hb, -⟩ := h
    exact legal_mmc3 (hb r rfl)
  all_goals exact h

/-- R395: a request withdrawn. -/
theorem Mapper.legal.clearInterrupt {m : Mapper} {i : MapperId} (h : m.legal i) : m.clearInterrupt.legal i := by
  cases m
  case mmc3 r =>
    obtain ⟨rfl, hb, -⟩ := h
    exact legal_mmc3 (hb r rfl)
  all_goals exact h

/-- R381: the fifth serial write restarts the count. -/
theorem mmc1Load_shiftCount (r : Mmc1) (mir : Mirror) (a : Nat) (v : BitVec 5) :
    (mmc1Load r mir a v).1.shiftCount = 0 := by
  unfold mmc1Load
  dsimp only
  repeat' split
  all_goals rfl

/-- R379, R380: the serial count returns to 0 at the fifth write. -/
theorem mmc1Write_shiftCount {r : Mmc1} (h : r.shiftCount < 5) (mir : Mirror) (a : Nat) (d : Byte) :
    (mmc1Write r mir a d).1.shiftCount < 5 := by
  unfold mmc1Write
  split
  · simp
  · dsimp only
    split
    · simp [mmc1Load_shiftCount]
    · dsimp only
      omega

/-- R388: a bank register write keeps the number of bank registers. -/
theorem mmc3Write_reg_length (e : Bool) (r : Mmc3) (mir : Mirror) (a : Nat) (d : Byte) :
    (mmc3Write e r mir a d).1.reg.length = r.reg.length := by
  unfold mmc3Write Mmc3.disable Mmc3.enable
  dsimp only
  repeat' split
  all_goals simp

theorem regWrite_ppu (s : State) (a : Nat) (d : Byte) : (regWrite s a d).ppu = s.ppu := by
  unfold regWrite
  split <;> rfl

theorem regWrite_dma (s : State) (a : Nat) (d : Byte) : (regWrite s a d).dma = s.dma := by
  unfold regWrite
  split <;> rfl

/-- R370: a register write changes no variant. -/
theorem regWrite_legal (a : Nat) (d : Byte) {s : State} {i : MapperId} (h : s.mapper.legal i) :
    (regWrite s a d).mapper.legal i := by
  obtain ⟨rfl, hb, hs⟩ := h
  unfold regWrite
  cases hm : s.mapper with
  | nrom => exact hm.symm ▸ ⟨rfl, nofun, nofun⟩
  | mmc1 r => exact Mapper.legal_mmc1 (mmc1Write_shiftCount (hs r hm) _ _ _)
  | mmc3 r => exact Mapper.legal_mmc3 ((mmc3Write_reg_length _ _ _ _ _).trans (hb r hm))
  | uxrom | cnrom | gxrom => exact ⟨rfl, nofun, nofun⟩

/-! What holds inside a step: everything but the routed requests. -/

/-- The invariants that hold also between the parts of a Bus step. -/
structure Block.rangesHold (b : Block) : Prop where
  status : b.cpu.statusFixed
  ppu : b.ppu.inRange
  mapper : b.mapper.legal b.cart.mapperId
  dma : b.dmaReady

theorem registersHold_iff (b : Block) : b.registersHold ↔ b.rangesHold ∧ b.requestsRouted := by
  unfold Block.registersHold
  rw [statusBitsFixed_iff, ppuInRange_iff, mapperLegal_iff]
  exact ⟨fun ⟨hs, hp, hm, hd, hr⟩ => ⟨⟨hs, hp, hm, hd⟩, hr⟩, fun ⟨⟨hs, hp, hm, hd⟩, hr⟩ => ⟨hs, hp, hm, hd, hr⟩⟩

theorem setPpu_rangesHold {s : State} (h : s.rangesHold) {p : Ppu} (hp : p.inRange) : (s.setPpu p).rangesHold :=
  ⟨h.status, hp, h.mapper, h.dma⟩

theorem memRead_rangesHold (a : Word) {s : State} (h : s.rangesHold) : (memRead a s).2.rangesHold := by
  refine ⟨?_, memRead_inRange a h.ppu, ?_, ?_⟩
  · rw [memRead_cpu]
    exact h.status
  · rw [memRead_mapper, memRead_cart]
    exact h.mapper
  · unfold Block.dmaReady
    rw [memRead_dma]
    exact h.dma

theorem ppuWrite_rangesHold (a : Nat) (v : Byte) {s : State} (h : s.rangesHold) : (ppuWrite s a v).rangesHold := by
  unfold ppuWrite cartPpuWrite
  dsimp only
  split
  · split
    · exact ⟨h.status, h.ppu, h.mapper, h.dma⟩
    · exact h
  split
  · exact setPpu_rangesHold h (ntWrite_inRange _ _ v h.ppu)
  · exact setPpu_rangesHold h (h.ppu.of_eq rfl rfl rfl rfl rfl rfl)

theorem portWrite_rangesHold (k : Nat) (v : Byte) {s : State} (h : s.rangesHold) : (portWrite s k v).rangesHold := by
  have hreg : ∀ {p : Ppu}, p.scanline = s.ppu.scanline → p.cycle = s.ppu.cycle → p.spr = s.ppu.spr →
      p.sprCount = s.ppu.sprCount → p.bgAttrib = s.ppu.bgAttrib → p.status = s.ppu.status → (s.setPpu p).rangesHold :=
    fun hl hc hd hn ha hs => setPpu_rangesHold h (h.ppu.of_eq hl hc hd hn ha hs)
  unfold portWrite
  split
  · exact hreg rfl rfl rfl rfl rfl rfl
  · exact hreg rfl rfl rfl rfl rfl rfl
  · exact h
  · exact hreg rfl rfl rfl rfl rfl rfl
  · exact hreg rfl rfl rfl rfl rfl rfl
  · unfold scrollWrite
    split <;> exact hreg rfl rfl rfl rfl rfl rfl
  · unfold addressWrite
    split <;> exact hreg rfl rfl rfl rfl rfl rfl
  · have hw := ppuWrite_rangesHold s.ppu.vram.toNat v h
    exact setPpu_rangesHold hw (hw.ppu.of_eq rfl rfl rfl rfl rfl rfl)

theorem regWrite_rangesHold (a : Nat) (v : Byte) {s : State} (h : s.rangesHold) : (regWrite s a v).rangesHold := by
  refine ⟨?_, ?_, ?_, ?_⟩
  · rw [regWrite_cpu]
    exact h.status
  · rw [regWrite_ppu]
    exact h.ppu
  · rw [regWrite_cart]
    exact regWrite_legal a v h.mapper
  · unfold Block.dmaReady
    rw [regWrite_dma]
    exact h.dma

theorem cartWrite_rangesHold (a : Nat) (v : Byte) {s : State} (h : s.rangesHold) : (cartWrite s a v).rangesHold := by
  unfold cartWrite
  split
  · exact ⟨h.status, h.ppu, h.mapper, h.dma⟩
  · exact regWrite_rangesHold a v h

theorem memWrite_rangesHold (a : Word) (v : Byte) {s : State} (h : s.rangesHold) : (memWrite a v s).rangesHold := by
  unfold memWrite
  dsimp only
  split
  · exact ⟨h.status, h.ppu, h.mapper, h.dma⟩
  split
  · exact portWrite_rangesHold _ v h
  split
  · exact ⟨h.status, h.ppu, h.mapper, nofun, fun _ => rfl⟩
  split
  · exact ⟨h.status, h.ppu, h.mapper, h.dma⟩
  split
  · exact h
  split
  · exact h
  · exact cartWrite_rangesHold _ v h

/-- R237: a transfer that ends is ready for the next one. -/
theorem dmaSlot_rangesHold {s : State} (ha : s.dma.active = true) (h : s.rangesHold) : (dmaSlot s).rangesHold := by
  unfold dmaSlot
  split
  · split
    · exact ⟨h.status, h.ppu, h.mapper, fun hi => absurd (ha.symm.trans hi) (by decide), nofun⟩
    · exact h
  · split
    · have hr := memRead_rangesHold (mkWord s.dma.page s.dma.offset) h
      exact ⟨hr.status, hr.ppu, hr.mapper, hr.dma⟩
    · refine ⟨h.status, h.ppu.of_eq rfl rfl rfl rfl rfl rfl, h.mapper, fun hi => ?_, fun hd => ?_⟩
      · simpa using hi
      · simpa using hd

theorem ppuClock_rangesHold {s : State} (h : s.rangesHold) : (ppuClock s).rangesHold := by
  refine ⟨?_, inRange_clockClosed.ppuClock h.ppu, ?_, ?_⟩
  · rw [ppuClock_cpu]
    exact h.status
  · rw [ppuClock_cart]
    rcases ppuClock_mapper s with e | e
    · exact e ▸ h.mapper
    · exact e ▸ h.mapper.onScanline
  · unfold Block.dmaReady
    rw [ppuClock_dma]
    exact h.dma

theorem rangesHold_stepClosed : StepClosed fun s => s.rangesHold where
  read := fun a => memRead_rangesHold a
  write := fun a v => memWrite_rangesHold a v
  cpu := fun _ hc h => ⟨hc h.status, h.ppu, h.mapper, h.dma⟩
  stop := fun _ h => ⟨h.status, h.ppu, h.mapper, h.dma⟩
  ppu := ppuClock_rangesHold
  transfer := dmaSlot_rangesHold
  nmi := fun h => setPpu_rangesHold h (h.ppu.of_eq rfl rfl rfl rfl rfl rfl)
  irq := fun h => ⟨h.status, h.ppu, h.mapper.clearInterrupt, h.dma⟩
  clk := fun _ h => ⟨h.status, h.ppu, h.mapper, h.dma⟩

/-! The requests (60_exceptions.md R424, R425). -/

/-- No request waits. -/
def Block.quiet (b : Block) : Prop := b.ppu.nmi = false ∧ b.mapper.pending = false

theorem Mapper.pending_clearInterrupt (m : Mapper) : m.clearInterrupt.pending = false := by cases m <;> rfl

/-- An entry into an interrupt leaves the requests alone. -/
theorem interruptEntry_nmi (o : Origin) (v : Word) (s : State) (hv : 0x6000 ≤ v.toNat) (hv' : v.toNat < 0xFFFF) :
    (interruptEntry o v s).ppu.nmi = s.ppu.nmi :=
  interruptEntry_keeps (fun s => s.ppu.nmi) (fun _ _ => rfl) (fun _ _ => rfl) (fun _ _ => rfl) o v s hv hv'

theorem interruptEntry_quiet (o : Origin) (v : Word) {s : State} (hv : 0x6000 ≤ v.toNat) (hv' : v.toNat < 0xFFFF)
    (h : s.quiet) : (interruptEntry o v s).quiet :=
  ((interruptEntry_keeps (fun s : State => s.quiet) (fun _ _ => rfl) (fun _ _ => rfl) (fun _ _ => rfl) o v s hv hv').symm ▸ h :)

theorem cpuIrq_quiet {s : State} (h : s.quiet) : (cpuIrq s).quiet := by
  unfold cpuIrq
  split
  · exact h
  · exact interruptEntry_quiet _ _ (by decide) (by decide) h

theorem routeNmi_nmi (s : State) : (routeNmi s).ppu.nmi = false := by
  unfold routeNmi applyIf
  split
  · exact interruptEntry_nmi _ _ _ (by decide) (by decide)
  · simpa using ‹¬ s.ppu.nmi = true›

theorem routeIrq_quiet (held : Bool) {s : State} (h : s.ppu.nmi = false) : (routeIrq held s).quiet := by
  have hc : (s.setMapper s.mapper.clearInterrupt).quiet := ⟨h, Mapper.pending_clearInterrupt _⟩
  unfold routeIrq
  cases hp : s.mapper.pending
  · exact ⟨h, hp⟩
  · exact applyIf_keeps (c := !held) (fun s : State => s.quiet) hc fun _ => cpuIrq_quiet

/-- R423: what a sequence establishes once no fatal condition stops it. -/
theorem andThen_establishes {P : State → Prop} {s : State} {f : State → State} (hf : (f s).fatal = none → P (f s))
    (h : (andThen s f).fatal = none) : P (andThen s f) := by
  cases e : s.fatal with
  | none =>
    rw [andThen_running e] at h ⊢
    exact hf h
  | some x =>
    rw [andThen_stopped e] at h
    cases e.symm.trans h

/-- R233, R234: the end of a Bus step routes every request, unless a fatal condition stops it. -/
theorem endStep_requestsRouted (held : Bool) (s : State) : (endStep held s).requestsRouted :=
  andThen_establishes (P := fun s => s.quiet) <| andThen_establishes (P := fun s => s.quiet) <|
    andThen_establishes (P := fun s => s.quiet) fun _ => routeIrq_quiet held (routeNmi_nmi s)

/-! The step. -/

theorem busStep_registersHold {s t : State} (h : s.registersHold) (ht : busStep s = .next t) : t.registersHold := by
  obtain ⟨hr, hq⟩ := (registersHold_iff _).mp h
  refine (registersHold_iff _).mpr ⟨rangesHold_stepClosed.busStep hr t ht, ?_⟩
  rcases busStep_cases ht with ⟨-, rfl⟩ | ⟨held, u, rfl⟩
  · exact hq
  · exact endStep_requestsRouted held u

/-- R451. -/
theorem Cpu.reset_statusFixed (params : Params) (pc : Word) : (Cpu.reset params pc).statusFixed := by
  constructor <;> simp [Cpu.reset]

/-- R454. -/
theorem Ppu.reset_inRange (nt0 nt1 pal oam : Memory) : (Ppu.reset nt0 nt1 pal oam).inRange := by
  constructor <;> simp [Ppu.reset]

/-- R450 to R456: a reset establishes every range, whatever stood before it. -/
theorem warmReset_registersHold (s : State) : (warmReset s).registersHold := by
  obtain ⟨⟨pc, ec⟩, ed, em, ecart⟩ := warmReset_registers s
  obtain ⟨-, -, -, ep⟩ := warmReset_memories s
  refine (registersHold_iff _).mpr ⟨⟨?_, ?_, ?_, ?_⟩, fun _ => ⟨?_, ?_⟩⟩
  · rw [ec]
    exact Cpu.reset_statusFixed _ _
  · rw [ep]
    exact Ppu.reset_inRange _ _ _ _
  · rw [em, ecart]
    exact powerOn_legal _
  · unfold Block.dmaReady
    rw [ed]
    exact ⟨fun _ => rfl, fun _ => rfl⟩
  · rw [ep]
    rfl
  · rw [em]
    cases s.cart.mapperId <;> rfl

theorem registersHold_hostClosed (p : Params) : HostClosed p Block.registersHold where
  pads := fun _ h => h
  frameComplete := fun _ h => h
  reset := fun _ _ => warmReset_registersHold _
  load := fun _ _ => warmReset_registersHold _

/-- Settles O59: the parts of a Bus step keep every range, its end routes the requests, and the host's moves keep the
whole. -/
theorem stepKeepsRegisters : Obligations.StepKeepsRegisters := by
  intro s t h ht
  exact ((registersHold_hostClosed s.params).step busStep_registersHold rfl h ht).2

end Sys2Proof.Machine
end

section
/-! SUPPORT. The Bus map by ranges: what a read answers and what a write does outside the memories (20_memory.md R51 to
R56, R76), and read after write in RAM and add-on RAM. -/

namespace Sys2Proof.Machine

/-! Reads. -/

/-- R54: a PPU port read. -/
theorem memRead_port (a : Word) (s : State) (h : 0x2000 ≤ a.toNat) (h' : a.toNat < 0x4000) :
    memRead a s = portRead s (a.toNat % 8) := by
  unfold memRead
  dsimp only
  rw [if_neg (by omega), if_pos h']

/-- R55: between the ports and the cartridge only 0x4015 to 0x4017 answer a read. -/
theorem memRead_unanswered (a : Word) (s : State) (h : 0x4000 ≤ a.toNat) (h' : a.toNat < 0x6000)
    (hr : a.toNat < 0x4015 ∨ 0x4017 < a.toNat) : memRead a s = (s.params.openBus, s) := by
  unfold memRead
  dsimp only
  rw [if_neg (by omega), if_neg (by omega), if_neg (by omega), if_neg (by omega), if_neg (by omega), if_pos h']

/-- 46 R247: a read of the sound unit's status. -/
theorem memRead_apuStatus (a : Word) (s : State) (h : a.toNat = 0x4015) :
    memRead a s = (Config.apuRead s.apuDraws, s.setApuDraws (s.apuDraws + 1)) := by
  unfold memRead
  dsimp only
  rw [if_neg (by omega), if_neg (by omega), if_pos h]

/-- R286: the ports that answer no read. -/
theorem portRead_unanswered (s : State) {k : Nat} (h : k ∈ [0, 1, 3, 5, 6]) : portRead s k = (s.params.openBus, s) := by
  unfold portRead
  split
  · exact absurd h (by decide)
  · exact absurd h (by decide)
  · exact absurd h (by decide)
  · rfl

/-- R374: an add-on RAM read. -/
theorem memRead_addOnRam (a : Word) (s : State) (h : 0x6000 ≤ a.toNat) (h' : a.toNat < 0x8000) :
    memRead a s = (s.prgRam.read (a.toNat % 0x2000), s) := by
  rw [memRead_cartridge a s h]
  unfold cartRead
  rw [if_pos h']

/-! Writes. -/

/-- R55: the addresses between the sound unit's and the cartridge's take no write. -/
theorem memWrite_unmapped (a : Word) (v : Byte) (s : State) (h : 0x4018 ≤ a.toNat) (h' : a.toNat < 0x6000) :
    memWrite a v s = s := by
  unfold memWrite
  dsimp only
  rw [if_neg (by omega), if_neg (by omega), if_neg (by omega), if_neg (by omega), if_neg (by omega), if_pos h']

/-- R374: an add-on RAM write. -/
theorem memWrite_addOnRam (a : Word) (v : Byte) (s : State) (h : 0x6000 ≤ a.toNat) (h' : a.toNat < 0x8000) :
    memWrite a v s = s.setPrgRam (s.prgRam.write (a.toNat % 0x2000) v) := by
  rw [memWrite_cartridge a v s h]
  unfold cartWrite
  rw [if_pos h']

/-! Read after write. -/

/-- R53: two addresses of RAM show one byte if they agree modulo 0x800. -/
theorem memRead_memWrite_lowRam {s : State} (hs : s.ram.wf = true) {a b : Word} (v : Byte) (ha : a.toNat < 0x2000)
    (hb : b.toNat < 0x2000) :
    (memRead b (memWrite a v s)).1 = if b.toNat % 0x800 = a.toNat % 0x800 then v else (memRead b s).1 := by
  rw [memWrite_lowRam a v s ha, memRead_lowRam b _ hb, memRead_lowRam b s hb]
  exact Memory.read_write hs _ _ v

/-- The add-on RAM's window is as long as the RAM, so that it has no mirrors. -/
theorem addOnRam_offset_inj {a b : Word} (ha : 0x6000 ≤ a.toNat) (ha' : a.toNat < 0x8000) (hb : 0x6000 ≤ b.toNat)
    (hb' : b.toNat < 0x8000) : b.toNat % 0x2000 = a.toNat % 0x2000 ↔ b = a := by
  rw [← BitVec.toNat_inj]
  omega

/-- R56, R374. -/
theorem memRead_memWrite_addOnRam {s : State} (hs : s.prgRam.wf = true) {a b : Word} (v : Byte) (ha : 0x6000 ≤ a.toNat)
    (ha' : a.toNat < 0x8000) (hb : 0x6000 ≤ b.toNat) (hb' : b.toNat < 0x8000) :
    (memRead b (memWrite a v s)).1 = if b = a then v else (memRead b s).1 := by
  rw [memWrite_addOnRam a v s ha ha', memRead_addOnRam b _ hb hb', memRead_addOnRam b s hb hb']
  simp only [← addOnRam_offset_inj ha ha' hb hb']
  exact Memory.read_write hs _ _ v

/-- Settles O41: each RAM is one memory read and written at an offset, and two addresses meet where their offsets do. -/
theorem ramReadAfterWrite : Obligations.RamReadAfterWrite := by
  intro s a b v ⟨hram, _, _, _, _, hprg, _⟩
  exact ⟨memRead_memWrite_lowRam hram.1 v, memRead_memWrite_addOnRam hprg.1 v⟩

/-- Settles O42: the Bus map has no register in these ranges but the sound unit's. -/
theorem unmappedAccess : Obligations.UnmappedAccess := by
  intro s a v
  refine ⟨?_, ?_, fun h => memWrite_apu a v s (by omega) (by omega) (by omega) (by omega), memRead_apuStatus a s⟩
  · rintro (⟨h, h'⟩ | ⟨h, h'⟩ | ⟨h, h', hk⟩)
    · exact memRead_unanswered a s h (by omega) (by omega)
    · exact memRead_unanswered a s (by omega) (by omega) (by omega)
    · rw [memRead_port a s h (by omega), portRead_unanswered s hk]
  · rintro (⟨h, h'⟩ | ⟨h, h', hk⟩)
    · exact memWrite_unmapped a v s h (by omega)
    · rw [memWrite_port a v s h (by omega), hk]
      rfl

end Sys2Proof.Machine
end

section
/-! SUPPORT. The status and data port reads as numbers (47_ppu_registers_memory.md R283, R285, R288). -/

namespace Sys2Proof.Machine

/-- Clearing the vertical-blank flag. -/
theorem putBit_vblank_false (v : Byte) : putBit v vblankBit false = v &&& 0x7F#8 := rfl

/-- R65: a PPU read takes its address modulo 0x4000. -/
theorem ppuRead_mod (s : State) (a : Nat) : ppuRead s (a % 0x4000) = ppuRead s a := by
  unfold ppuRead
  rw [Nat.mod_mod]

/-- R288: the data port's advance as a number. -/
theorem vram_add_dataStep (p : Ppu) :
    p.vram + p.dataStep = BitVec.ofNat 15 (p.vram.toNat + if p.control.getLsbD 2 then 32 else 1) := by
  rw [BitVec.ofNat_add, BitVec.ofNat_toNat, BitVec.setWidth_eq]
  unfold Ppu.dataStep
  split <;> rfl

/-- R283. -/
theorem portRead_status (s : State) :
    portRead s 2 = ((s.ppu.status &&& 0xE0#8) ||| (s.ppu.dataBuffer &&& 0x1F#8),
      s.setPpu { s.ppu with status := s.ppu.status &&& 0x7F#8, latch := false }) := by
  rw [← putBit_vblank_false]
  rfl

/-- R285, R288. -/
theorem portRead_data (s : State) :
    portRead s 7 =
      (if 0x3F00 ≤ s.ppu.vram.toNat % 0x4000 then ppuRead s s.ppu.vram.toNat else s.ppu.dataBuffer,
        s.setPpu { s.ppu with
          dataBuffer := ppuRead s s.ppu.vram.toNat
          vram := BitVec.ofNat 15 (s.ppu.vram.toNat + if s.ppu.control.getLsbD 2 then 32 else 1) }) := by
  rw [← vram_add_dataStep]
  rfl

/-- Settles O43: every mirror of a port is the port modulo 8. -/
theorem portReads : Obligations.PortReads := by
  intro s a h h'
  rw [memRead_port a s h (by omega)]
  constructor
  · intro hk
    rw [hk, portRead_status]
  · intro hk
    dsimp only
    rw [hk, portRead_data, ppuRead_mod]

end Sys2Proof.Machine
end

section
/-! SUPPORT. The PPU's address space by places (20_memory.md R65 to R67): a read answers the byte at the address's place,
a write replaces that byte and no other and moves no address to another place. -/

namespace Sys2Proof.Machine

/-! Bytes at places. -/

/-- The state with byte `v` at a place. -/
def State.storeAt (s : State) (p : Place) (v : Byte) : State :=
  match p with
  | .ram k => s.setRam (s.ram.write k v)
  | .prgRam k => s.setPrgRam (s.prgRam.write k v)
  | .chrRam k => s.setChrRam (s.chrRam.write k v)
  | .table0 k => s.setPpu { s.ppu with nt0 := s.ppu.nt0.write k v }
  | .table1 k => s.setPpu { s.ppu with nt1 := s.ppu.nt1.write k v }
  | .palette k => s.setPpu { s.ppu with pal := s.ppu.pal.write k v }
  | .oam k => s.setPpu { s.ppu with oam := s.ppu.oam.write k v }

theorem byteAt_storeAt_same {s : State} (hs : s.memoriesSound) (p : Place) (v : Byte) :
    (s.storeAt p v).byteAt p = v := by
  obtain ⟨hram, h0, h1, hpal, hoam, hprg, hchr⟩ := hs
  cases p with
  | ram k => exact Memory.read_write_same hram.1 k v
  | prgRam k => exact Memory.read_write_same hprg.1 k v
  | chrRam k => exact Memory.read_write_same hchr.1 k v
  | table0 k => exact Memory.read_write_same h0.1 k v
  | table1 k => exact Memory.read_write_same h1.1 k v
  | palette k => exact Memory.read_write_same hpal.1 k v
  | oam k => exact Memory.read_write_same hoam.1 k v

theorem byteAt_storeAt_other (s : State) {p q : Place} (v : Byte) (h : q ≠ p) :
    (s.storeAt p v).byteAt q = s.byteAt q := by
  cases p <;> cases q
  case ram.ram | prgRam.prgRam | chrRam.chrRam | table0.table0 | table1.table1 | palette.palette | oam.oam =>
    exact Memory.read_write_other _ v (by rintro rfl; exact h rfl)
  all_goals rfl

theorem byteAt_storeAt {s : State} (hs : s.memoriesSound) (p q : Place) (v : Byte) :
    (s.storeAt p v).byteAt q = if q = p then v else s.byteAt q := by
  split
  · rename_i e
    rw [e, byteAt_storeAt_same hs]
  · rename_i e
    exact byteAt_storeAt_other s v e

/-! Places of PPU addresses. -/

/-- The palette's places are those of the addresses from 0x3F00 on. -/
theorem ppuPlace_eq_palette_iff (s : State) (a k : Nat) :
    ppuPlace s a = some (.palette k) ↔ 0x3F00 ≤ a % 0x4000 ∧ palIndex (a % 0x4000) = k := by
  unfold ppuPlace
  dsimp only
  split
  · exact iff_of_false (by split <;> simp) (by omega)
  split
  · exact iff_of_false (by split <;> simp) (by omega)
  · rw [Option.some.injEq, Place.palette.injEq, and_iff_right (by omega)]

/-- R67: the palette repeats every 32 addresses. -/
theorem ppuPlace_palette (s : State) {j : Nat} (hj : j < 0x100) :
    ppuPlace s (0x3F00 + j) = some (.palette (palIndex j)) := by
  have hi : palIndex (0x3F00 + j) = palIndex j := by
    unfold palIndex
    rw [show (0x3F00 + j) % 0x20 = j % 0x20 by omega]
  rw [ppuPlace_eq_palette_iff, Nat.mod_eq_of_lt (by omega)]
  exact ⟨by omega, hi⟩

/-- R67: the palette addresses that show one entry. -/
theorem palIndex_eq_iff (j k : Nat) :
    palIndex j = palIndex k ↔ k % 32 = j % 32 ∨ (j % 4 = 0 ∧ k % 4 = 0 ∧ k % 16 = j % 16) := by
  unfold palIndex
  dsimp only
  split <;> split <;> omega

/-! The write. -/

/-- R65 to R67, R375: a PPU write stores its byte at the address's place, and does nothing where there is none. -/
theorem ppuWrite_eq_storeAt (s : State) (a : Nat) (v : Byte) :
    ppuWrite s a v = (ppuPlace s a).elim s fun p => s.storeAt p v := by
  unfold ppuWrite ppuPlace cartPpuWrite ntWrite
  dsimp only
  repeat' split
  all_goals rfl

/-- R375: character ROM ignores the write. -/
theorem ppuWrite_characterRom (s : State) {a : Nat} (v : Byte) (h : a % 0x4000 < 0x2000) (hc : s.cart.chrBanks ≠ 0) :
    ppuWrite s a v = s := by
  unfold ppuWrite cartPpuWrite
  dsimp only
  rw [if_pos h, if_neg hc]

theorem byteAt_ppuWrite {s : State} (hs : s.memoriesSound) (a : Nat) (v : Byte) (q : Place) :
    (ppuWrite s a v).byteAt q = if ppuPlace s a = some q then v else s.byteAt q := by
  rw [ppuWrite_eq_storeAt]
  cases ppuPlace s a with
  | none => rfl
  | some p =>
    simp only [Option.elim_some, Option.some.injEq, eq_comm (a := p)]
    exact byteAt_storeAt hs p q v

@[simp] theorem ppuWrite_mapper (s : State) (a : Nat) (v : Byte) : (ppuWrite s a v).mapper = s.mapper := by
  rw [ppuWrite_eq_storeAt]
  rcases ppuPlace s a with _ | _ | _ | _ | _ | _ | _ | _ <;> rfl

@[simp] theorem ppuWrite_mirror (s : State) (a : Nat) (v : Byte) : (ppuWrite s a v).mirror = s.mirror := by
  rw [ppuWrite_eq_storeAt]
  rcases ppuPlace s a with _ | _ | _ | _ | _ | _ | _ | _ <;> rfl

@[simp] theorem ppuWrite_mask (s : State) (a : Nat) (v : Byte) : (ppuWrite s a v).ppu.mask = s.ppu.mask := by
  rw [ppuWrite_eq_storeAt]
  rcases ppuPlace s a with _ | _ | _ | _ | _ | _ | _ | _ <;> rfl

@[simp] theorem ppuPlace_ppuWrite (s : State) (a : Nat) (v : Byte) (b : Nat) :
    ppuPlace (ppuWrite s a v) b = ppuPlace s b := by
  unfold ppuPlace
  rw [ppuWrite_cart, ppuWrite_mapper, ppuWrite_mirror]

/-! The read. -/

/-- What a PPU read under a mask shows of the byte at a place: palette bytes are cut to six bits, or to the two of
grayscale (R67, 47 R289). -/
def shownAt (mask : Byte) (p : Place) (v : Byte) : Byte :=
  match p with
  | .palette _ => v &&& (if mask.getLsbD 0 then 0x30#8 else 0x3F#8)
  | _ => v

theorem shownAt_of_below {s : State} {a : Nat} {p : Place} (h : ppuPlace s a = some p) (ha : a % 0x4000 < 0x3F00)
    (mask v : Byte) : shownAt mask p v = v := by
  cases p with
  | palette k => exact absurd ((ppuPlace_eq_palette_iff s a k).mp h).1 (by omega)
  | _ => rfl

/-- R65 to R67: a PPU read at an address that has a place. -/
theorem ppuRead_of_place {s : State} {a : Nat} {p : Place} (h : ppuPlace s a = some p) :
    ppuRead s a = shownAt s.ppu.mask p (s.byteAt p) := by
  revert h
  unfold ppuPlace ppuRead cartPpuRead ntRead
  dsimp only
  repeat' split
  all_goals rintro ⟨⟩
  all_goals rfl

/-- Read after write. -/
theorem ppuRead_ppuWrite {s : State} (hs : s.memoriesSound) {b : Nat} {p : Place} (hb : ppuPlace s b = some p) (a : Nat)
    (v : Byte) :
    ppuRead (ppuWrite s a v) b = if ppuPlace s a = some p then shownAt s.ppu.mask p v else ppuRead s b := by
  rw [ppuRead_of_place (p := p) (by rw [ppuPlace_ppuWrite, hb]), ppuRead_of_place hb, ppuWrite_mask, byteAt_ppuWrite hs]
  split <;> rfl

/-! The name tables (R66). -/

/-- Which of the two buffers each quarter shows. -/
def shownTables (m : Mirror) : List Nat :=
  match m with
  | .vertical => [0, 1, 0, 1]
  | .horizontal => [0, 0, 1, 1]
  | .singleLow => [0, 0, 0, 0]
  | .singleHigh => [1, 1, 1, 1]

theorem shownTables_getElem? (m : Mirror) {q : Nat} (hq : q < 4) : (shownTables m)[q]? = some (ntTable m q) := by
  revert q
  cases m <;> decide

theorem ntTable_eq_zero_or_one (m : Mirror) {q : Nat} (hq : q < 4) : ntTable m q = 0 ∨ ntTable m q = 1 := by
  revert q
  cases m <;> decide

theorem ppuRead_nameTable (s : State) {b : Nat} (h : 0x2000 ≤ b) (h' : b < 0x3F00) :
    ppuRead s b = (if (shownTables s.mirror)[b / 0x400 % 4]? = some 1 then s.ppu.nt1 else s.ppu.nt0).read (b % 0x400) := by
  have hq : b / 0x400 % 4 < 4 := Nat.mod_lt _ (by decide)
  unfold ppuRead ntRead
  dsimp only
  rw [Nat.mod_eq_of_lt (by omega), if_neg (by omega), if_pos h', shownTables_getElem? s.mirror hq]
  rcases ntTable_eq_zero_or_one s.mirror hq with e | e
  · rw [e]
    rfl
  · rw [e]
    rfl

/-- Settles O45: a read and a write meet exactly where their addresses have one place. -/
theorem ppuReadAfterWrite : Obligations.PpuReadAfterWrite := by
  intro s a b v hs
  refine ⟨?_, ?_, fun h h' => ppuRead_nameTable s h h', ?_, fun h hc => ppuWrite_characterRom s v h hc, ?_⟩
  · intro ha hne hab
    obtain ⟨p, hp⟩ := Option.ne_none_iff_exists'.mp hne
    rw [ppuRead_ppuWrite hs (hab.trans hp), if_pos hp, shownAt_of_below hp ha]
  · intro ha hab
    have hp := (ppuPlace_eq_palette_iff s a _).mpr ⟨ha, rfl⟩
    rw [ppuRead_ppuWrite hs (hab.trans hp), if_pos hp]
    rfl
  · intro j k hj hk
    rw [ppuRead_ppuWrite hs (ppuPlace_palette s hk), ppuPlace_palette s hj]
    simp only [Option.some.injEq, Place.palette.injEq, palIndex_eq_iff]
    rfl
  · intro p hp
    rw [byteAt_ppuWrite hs, if_neg hp]

end Sys2Proof.Machine
end

section
/-! SUPPORT. Decoding and encoding (30_encoding.md R80 to R86): the two bytes of a 16-bit operand, what `ofBytes` gives for
every opcode byte, and the decoder as one equation; then the statements of the encoding. -/

namespace Sys2Proof

open Machine

/-! The bytes of a 16-bit operand (R82). -/

@[simp] theorem mkWord_hiByte_loByte (w : Word) : mkWord (hiByte w) (loByte w) = w := by
  apply BitVec.eq_of_toNat_eq
  rw [mkWord_toNat, hiByte_eq, loByte_eq, BitVec.toNat_ofNat, BitVec.toNat_ofNat]
  omega

@[simp] theorem loByte_mkWord (hi lo : Byte) : loByte (mkWord hi lo) = lo := by
  apply BitVec.eq_of_toNat_eq
  rw [loByte_eq, BitVec.toNat_ofNat, mkWord_toNat]
  omega

@[simp] theorem hiByte_mkWord (hi lo : Byte) : hiByte (mkWord hi lo) = hi := by
  apply BitVec.eq_of_toNat_eq
  rw [hiByte_eq, BitVec.toNat_ofNat, mkWord_toNat]
  omega

/-! The opcode table (R84, R85). -/

theorem wellFormed_illegal_iff {op : Byte} : (Instr.illegal op).wellFormed = true ↔ op ∈ illegalBytes :=
  List.contains_iff_mem

/-- R85: a byte of the list has no row, and every other byte has one; the one fact counted out over the 256 bytes. -/
theorem mem_illegalBytes_iff : ∀ op : Byte, op ∈ illegalBytes ↔ ofBytes op 0 0 = .illegal op := by decide +kernel

/-- Along the branches of `ofBytes`: the instruction is well-formed, keeps its opcode byte, and its operand bytes are as
many of the two given as its format has. -/
theorem ofBytes_spec (op b1 b2 : Byte) :
    (ofBytes op b1 b2).wellFormed = true ∧ (ofBytes op b1 b2).opcode = op ∧
    (ofBytes op b1 b2).operandBytes = [b1, b2].take (ofBytes op b1 b2).operandBytes.length := by
  fun_cases ofBytes op b1 b2
  case case152 =>
    -- the byte has no row
    have h : ofBytes op 0 0 = .illegal op := by simp only [ofBytes, *]
    exact ⟨wellFormed_illegal_iff.mpr ((mem_illegalBytes_iff op).mpr h), rfl, rfl⟩
  all_goals
    refine ⟨rfl, BitVec.eq_of_toNat_eq (Eq.symm ‹_›), ?_⟩
    simp only [Instr.operandBytes, loByte_mkWord, hiByte_mkWord, List.length_cons, List.length_nil, List.take]

theorem wellFormed_ofBytes (op b1 b2 : Byte) : (ofBytes op b1 b2).wellFormed = true := (ofBytes_spec op b1 b2).1

@[simp] theorem opcode_ofBytes (op b1 b2 : Byte) : (ofBytes op b1 b2).opcode = op := (ofBytes_spec op b1 b2).2.1

theorem operandBytes_ofBytes (op b1 b2 : Byte) :
    (ofBytes op b1 b2).operandBytes = [b1, b2].take (ofBytes op b1 b2).operandBytes.length := (ofBytes_spec op b1 b2).2.2

/-- R80: the length of a well-formed instruction is what its opcode byte selects. -/
theorem opLength_opcode {i : Instr} (h : i.wellFormed = true) : opLength i.opcode = i.length := by
  cases i
  case illegal op => exact Laws.OpcodeLength.illegal op h
  all_goals
    simp only [Instr.opcode, Instr.length, Instr.operandBytes, List.length_cons, List.length_nil,
      Laws.OpcodeLength.rows0, Laws.OpcodeLength.rows1, Laws.OpcodeLength.rows2, Laws.OpcodeLength.rows3,
      Laws.OpcodeLength.rows4, Laws.OpcodeLength.rows5, Laws.OpcodeLength.rows6, Laws.OpcodeLength.rows7]

theorem length_operandBytes_ofBytes (op b1 b2 : Byte) : (ofBytes op b1 b2).operandBytes.length = opLength op - 1 := by
  have h := opLength_opcode (wellFormed_ofBytes op b1 b2)
  rw [opcode_ofBytes, Instr.length] at h
  omega

theorem opLength_cases (op : Byte) : opLength op = 1 ∨ opLength op = 2 ∨ opLength op = 3 := by
  have h := congrArg List.length (operandBytes_ofBytes op 0 0)
  have hlen : opLength op = 1 + (ofBytes op 0 0).operandBytes.length := rfl
  rw [List.length_take, List.length_cons, List.length_singleton] at h
  omega

/-! An opcode byte with the list of its operand bytes. -/

/-- The instruction of opcode byte `op` with the operand bytes `ops`. -/
def ofOperands (op : Byte) (ops : List Byte) : Instr := ofBytes op (ops.getD 0 0) (ops.getD 1 0)

/-- Row by row: the operand bytes of an instruction, put back where its row takes them. The opcode byte is a literal
before `ofBytes` is evaluated on it. -/
theorem ofOperands_opcode_operandBytes {i : Instr} (h : i.wellFormed = true) :
    ofOperands i.opcode i.operandBytes = i := by
  cases i
  case illegal op => exact (mem_illegalBytes_iff op).mp (wellFormed_illegal_iff.mp h)
  all_goals
    dsimp only [Instr.opcode, Instr.operandBytes]
    (conv_lhs => whnf) <;> simp

theorem operandBytes_ofOperands {op : Byte} {ops : List Byte} (h : ops.length = opLength op - 1) :
    (ofOperands op ops).operandBytes = ops := by
  have hle : ops.length ≤ 2 := by rcases opLength_cases op with e | e | e <;> omega
  rw [ofOperands, operandBytes_ofBytes, length_operandBytes_ofBytes, ← h]
  match ops, hle with
  | [], _ | [_], _ | [_, _], _ => rfl

/-- R80, R81: the opcode byte with its operand bytes is the encoding of the instruction they stand for. -/
theorem encode_ofOperands {op : Byte} {ops : List Byte} (h : ops.length = opLength op - 1) :
    encode (ofOperands op ops) = op :: ops := by
  rw [encode, operandBytes_ofOperands h, ofOperands, opcode_ofBytes]

/-! The decoder. -/

/-- R80, R81: the operand bytes are taken from the rest of the list, and a list that ends before them is refused. -/
theorem decode_cons (op : Byte) (rest : List Byte) :
    decode (op :: rest) =
      if rest.length + 1 < opLength op then .error (.truncated op)
      else .ok (ofOperands op (rest.take (opLength op - 1)), rest.drop (opLength op - 1)) := by
  rcases opLength_cases op with h | h | h
  · simp [decode, h, ofOperands]
  · cases rest <;> simp [decode, h, ofOperands]
  · match rest with
    | [] | [_] => simp [decode, h]
    | _ :: _ :: _ => simp [decode, h, ofOperands]

theorem decode_cons_append {op : Byte} {ops : List Byte} (h : ops.length = opLength op - 1) (rest : List Byte) :
    decode (op :: (ops ++ rest)) = .ok (ofOperands op ops, rest) := by
  rw [decode_cons, if_neg (by rw [List.length_append]; omega), ← h, List.take_left, List.drop_left]

/-! The statements. -/

/-- Settles O1: the opcode byte selects the instruction's own length, so its operand bytes are taken and nothing else. -/
theorem decodeEncode : Obligations.DecodeEncode := by
  intro i rest h
  have hlen : i.operandBytes.length = opLength i.opcode - 1 := by
    rw [opLength_opcode h, Instr.length, Nat.add_sub_cancel_left]
  have hdec := decode_cons_append hlen rest
  rwa [ofOperands_opcode_operandBytes h] at hdec

/-- Settles O2: the bytes the decoder takes are the encoding of what it answers. -/
theorem encodeDecode : Obligations.EncodeDecode := by
  intro bs i rest h
  cases bs with
  | nil => nomatch h
  | cons op tail =>
    rw [decode_cons] at h
    split at h
    · nomatch h
    · next hfits =>
      obtain ⟨rfl, rfl⟩ := Prod.mk.inj (Except.ok.inj h)
      refine ⟨wellFormed_ofBytes op _ _, ?_⟩
      rw [encode_ofOperands (by rw [List.length_take]; omega), List.cons_append, List.take_append_drop]

/-- Settles O3: the decoder's equation, with R85's list. -/
theorem decodeTotal : Obligations.DecodeTotal := by
  refine ⟨rfl, fun op rest => ⟨fun hfits => ?_, fun hshort => ?_⟩, mem_illegalBytes_iff, rfl⟩
  · exact ⟨_, by rw [decode_cons, if_neg (by omega)]⟩
  · rw [decode_cons, if_pos hshort]

/-- Settles O4: each word is the encoding of the instruction, so it decodes to it. -/
theorem decodeWords : Obligations.DecodeWords :=
  ⟨decodeEncode (.ldaAbs 0x1234#16) [] rfl, decodeEncode (.staIzy 0x40#8) [] rfl,
    decodeEncode (.adcImm 0x50#8) [] rfl, decodeEncode .aslAcc [] rfl, decodeEncode (.jmpInd 0x03FF#16) [] rfl,
    decodeEncode (.bne 0xFB#8) [] rfl, decodeEncode .rti [] rfl,
    decodeEncode (.illegal 0x02#8) [] (by decide)⟩

end Sys2Proof
end

section
/-! SUPPORT. Addressing as numbers (40_addressing_modes.md R102 to R115): a byte as an address, indexing with its
page-cross bit, and the pointers with their page wraps; then the statements of the effective addresses. -/

namespace Sys2Proof.Machine

/-! Addresses as numbers. -/

@[simp] theorem zext16_toNat (v : Byte) : (zext16 v).toNat = v.toNat := BitVec.toNat_setWidth_of_le (by decide)

theorem zext16_add_toNat (a b : Byte) : (zext16 (a + b)).toNat = (a.toNat + b.toNat) % 256 := by
  rw [zext16_toNat, BitVec.toNat_add]

/-- R115: two addresses lie in different pages. -/
theorem page_bne_iff (a b : Word) : (page a != page b) = true ↔ a.toNat / 256 ≠ b.toNat / 256 := by
  have ha := a.isLt
  have hb := b.isLt
  rw [bne_iff_ne, ne_eq, page, page, hiByte_eq, hiByte_eq, ← BitVec.toNat_inj, BitVec.toNat_ofNat, BitVec.toNat_ofNat,
    Nat.mod_eq_of_lt (by omega), Nat.mod_eq_of_lt (by omega)]

/-! Indexing (R108, R109, R112). -/

theorem indexed_addr_toNat (base : Word) (index : Byte) (s : State) :
    (indexed base index s).addr.toNat = (base.toNat + index.toNat) % 65536 := by
  rw [indexed, resolvedAt_addr, BitVec.toNat_add, zext16_toNat]

theorem indexed_crossed_iff (base : Word) (index : Byte) (s : State) :
    (indexed base index s).crossed = true ↔ (indexed base index s).addr.toNat / 256 ≠ base.toNat / 256 :=
  page_bne_iff _ _

/-! Pointers (R110 to R112). -/

/-- R111, R112: both bytes of a pointer in page zero come from RAM, so that reading it changes nothing. -/
theorem zeroPagePointer_eq (a : Byte) (s : State) :
    zeroPagePointer a s = (mkWord (s.ram.read ((a.toNat + 1) % 256)) (s.ram.read a.toNat), s) := by
  have ha := a.isLt
  have hl : memRead (zext16 a) s = (s.ram.read a.toNat, s) := by
    rw [memRead_lowRam _ s (by rw [zext16_toNat]; omega), zext16_toNat, Nat.mod_eq_of_lt (by omega)]
  have hh : memRead (zext16 (a + 1#8)) s = (s.ram.read ((a.toNat + 1) % 256), s) := by
    have hn : (zext16 (a + 1#8)).toNat = (a.toNat + 1) % 256 := zext16_add_toNat a 1#8
    rw [memRead_lowRam _ s (by omega), hn, Nat.mod_eq_of_lt (by omega)]
  simp only [zeroPagePointer, hl, hh]

/-- R110: the address of an indirect pointer's high byte. -/
theorem mkWord_hiByte_loByte_succ (p : Word) :
    mkWord (hiByte p) (loByte p + 1#8) = BitVec.ofNat 16 (p.toNat / 256 * 256 + (p.toNat + 1) % 256) := by
  have hp := p.isLt
  apply BitVec.eq_of_toNat_eq
  rw [mkWord_toNat, BitVec.toNat_add, hiByte_eq, loByte_eq]
  simp only [BitVec.toNat_ofNat]
  omega

/-! The statements. -/

/-- Settles O10: the modes without an index and in page zero by their addresses alone, the two indexed ones by
indexing. -/
theorem directAddress : Obligations.DirectAddress := by
  intro s v a w
  refine ⟨?_, ⟨BitVec.sub_add_cancel _ _, rfl⟩, zext16_toNat a, zext16_add_toNat a _, zext16_add_toNat a _, rfl,
    indexed_addr_toNat w _ s, indexed_addr_toNat w _ s, ?_, ?_⟩
  · simp only [List.forall_mem_cons]
    exact ⟨rfl, rfl, rfl, rfl, rfl, rfl, rfl, nofun⟩
  · simp only [List.forall_mem_cons]
    exact ⟨rfl, rfl, rfl, rfl, rfl, nofun⟩
  · simp only [List.forall_mem_cons]
    exact ⟨indexed_crossed_iff w _ s, indexed_crossed_iff w _ s, nofun⟩

/-- Settles O11: the pointer's two reads give the address or, in the post-indexed mode, the base that is indexed. -/
theorem pointerAddress : Obligations.PointerAddress := by
  intro s a p
  refine ⟨?_, ?_, ?_⟩
  · have hq : (a + s.cpu.x).toNat = (a.toNat + s.cpu.x.toNat) % 256 := BitVec.toNat_add _ _
    simp only [resolve, zeroPagePointer_eq, hq, resolvedAt_addr, mkWord_toNat]
    exact ⟨Nat.add_comm _ _, rfl, rfl⟩
  · have hbase : (mkWord (s.ram.read ((a.toNat + 1) % 256)) (s.ram.read a.toNat)).toNat =
        (s.ram.read a.toNat).toNat + 256 * (s.ram.read ((a.toNat + 1) % 256)).toNat := by
      rw [mkWord_toNat, Nat.add_comm]
    simp only [resolve, zeroPagePointer_eq, indexed_crossed_iff, indexed_addr_toNat, hbase]
    exact ⟨trivial, trivial, rfl⟩
  · simp only [resolve, indirectPointer, mkWord_hiByte_loByte_succ, resolvedAt_addr, resolvedAt_st, memRead_cpu,
      mkWord_toNat]
    exact ⟨Nat.add_comm _ _, rfl, trivial⟩

end Sys2Proof.Machine
end

section
/-! SUPPORT. The memory frame (40_addressing_modes.md R113, R114): the part of the state that holds every byte of memory
and what decides how it is read; an instruction that neither stores nor pushes keeps it. -/

namespace Sys2Proof.Machine

/-! The view. -/

/-- Every memory, what the CPU's and the PPU's reads of one depend on, and what else a Bus write can change outside the
registers of the PPU and the controllers. -/
structure MemoryView where
  ram : Memory
  prgRam : Memory
  chrRam : Memory
  nt0 : Memory
  nt1 : Memory
  pal : Memory
  oam : Memory
  mask : Byte
  mapper : Mapper
  mirror : Mirror
  cart : Cartridge
  dma : Dma
  apuWrites : List (Word × Byte)

/-- The view of a state. -/
def State.memoryView (s : State) : MemoryView where
  ram := s.ram
  prgRam := s.prgRam
  chrRam := s.chrRam
  nt0 := s.ppu.nt0
  nt1 := s.ppu.nt1
  pal := s.ppu.pal
  oam := s.ppu.oam
  mask := s.ppu.mask
  mapper := s.mapper
  mirror := s.mirror
  cart := s.cart
  dma := s.dma
  apuWrites := s.apuWrites

/-- States with one view have the same bytes, also as they are read. -/
theorem memoryKept_of_memoryView {s t : State} (h : t.memoryView = s.memoryView) : memoryKept s t := by
  injection h with hram hprg hchr hnt0 hnt1 hpal hoam hmask hmapper hmirror hcart
  refine ⟨hcart, fun p => ?_, fun a ha => ?_, fun a => ?_⟩
  · cases p <;> simp only [State.byteAt, *]
  · simp only [standsMemory, Bool.or_eq_true, decide_eq_true_eq] at ha
    rcases ha with hlow | hhigh
    · rw [memRead_lowRam a t hlow, memRead_lowRam a s hlow, hram]
    · rw [memRead_cartridge a t hhigh, memRead_cartridge a s hhigh]
      unfold cartRead prgOffset
      rw [hprg, hcart, hmapper]
  · unfold ppuRead cartPpuRead ntRead palRead Ppu.grayscale
    rw [hchr, hcart, hmapper, hmirror, hnt0, hnt1, hpal, hmask]

/-! What keeps the view. -/

@[simp] theorem memoryView_setCpu (s : State) (c : Cpu) : (s.setCpu c).memoryView = s.memoryView := rfl

@[simp] theorem memoryView_raise (f : Fatal) (s : State) : (raise f s).memoryView = s.memoryView := rfl

@[simp] theorem memoryView_resolve (m : Mode) (s : State) : (resolve m s).st.memoryView = s.memoryView := by
  simp [State.memoryView]

@[simp] theorem memoryView_operand (m : Mode) (r : Resolved) : (operand m r).2.memoryView = r.st.memoryView := by
  simp [State.memoryView]

@[simp] theorem memoryView_pull (s : State) : (pull s).2.memoryView = s.memoryView := by
  rw [pull_eq, memoryView_setCpu]

@[simp] theorem memoryView_pullWord (s : State) : (pullWord s).2.memoryView = s.memoryView := by
  rw [pullWord_eq, memoryView_setCpu]

@[simp] theorem memoryView_returnFromException (s : State) : (returnFromException s).memoryView = s.memoryView := by
  rw [returnFromException_eq, memoryView_setCpu]

/-! The ends of a meaning without a write. -/

/-- The next state that an outcome gives, if it gives one, has the view of `s`. -/
def keepsMemoryView (s : State) (o : Out) : Prop := outHolds (fun t => t.memoryView = s.memoryView) o

theorem finish_keepsMemoryView (n : Nat) {s t : State} (h : t.memoryView = s.memoryView) :
    keepsMemoryView s (finish n t) :=
  outHolds_next (andThen_keeps (fun u => u.memoryView = s.memoryView) h fun _ => h)

/-- The state in which an instruction that reads its operand ends. -/
theorem memoryView_operandRead (m : Mode) (c : Cpu) (s : State) :
    ((operand m (resolve m s)).2.setCpu c).memoryView = s.memoryView := by
  rw [memoryView_setCpu, memoryView_operand, memoryView_resolve]

/-- R180: the accumulator forms of the shifts write no memory. -/
theorem modifyOp_acc_keepsMemoryView (base : Nat) (f : Cpu → Byte → Byte × Cpu) (s : State) :
    keepsMemoryView s (modifyOp .acc base f s) :=
  finish_keepsMemoryView _ (by simp [writeBack])

theorem branch_keepsMemoryView (cond : Bool) (d : Byte) (s : State) : keepsMemoryView s (branch cond d s) := by
  cases cond
  · exact finish_keepsMemoryView _ (memoryView_setCpu _ _)
  · exact finish_keepsMemoryView _ (memoryView_setCpu _ _)

/-! The statement. -/

/-- Every instruction that neither stores nor pushes: those without an operand byte first, then the forms that
read one. -/
theorem exec_keepsMemoryView {i : Instr} (hp : pushes i = false) (hm : storedMode i = none) (s : State) :
    keepsMemoryView s (exec i s) := by
  cases i
  case pha | php | jsr | brk => nomatch hp
  case staZp0 | staZpx | staAbs | staAbx | staAby | staIzx | staIzy | stxZp0 | stxZpy | stxAbs | styZp0 | styZpx
      | styAbs | incZp0 | incZpx | incAbs | incAbx | decZp0 | decZpx | decAbs | decAbx | aslZp0 | aslZpx | aslAbs
      | aslAbx | lsrZp0 | lsrZpx | lsrAbs | lsrAbx | rolZp0 | rolZpx | rolAbs | rolAbx | rorZp0 | rorZpx | rorAbs
      | rorAbx =>
    nomatch hm
  case aslAcc | lsrAcc | rolAcc | rorAcc => exact modifyOp_acc_keepsMemoryView _ _ s
  case tax | tay | txa | tya | tsx | txs | inx | iny | dex | dey | clc | sec | cli | sei | clv | cld | sed | nop =>
    exact finish_keepsMemoryView _ (memoryView_setCpu s _)
  case bcc | bcs | beq | bne | bmi | bpl | bvc | bvs => exact branch_keepsMemoryView _ _ s
  case jmpAbs | jmpInd => exact finish_keepsMemoryView _ ((memoryView_setCpu _ _).trans (memoryView_resolve _ s))
  case pla | plp => exact finish_keepsMemoryView _ ((memoryView_setCpu _ _).trans (memoryView_pull s))
  case rts => exact finish_keepsMemoryView _ ((memoryView_setCpu _ _).trans (memoryView_pullWord s))
  case rti => exact finish_keepsMemoryView _ (memoryView_returnFromException s)
  case illegal => exact outHolds_next (memoryView_raise _ s)
  -- the loads, the arithmetic and logic, the compares and BIT
  all_goals exact finish_keepsMemoryView _ (memoryView_operandRead _ _ s)

/-- Settles O33: the view of the memories is kept, and with it every read. -/
theorem memoryFrame : Obligations.MemoryFrame := by
  intro i s t hp hm h
  have hv : t.memoryView = s.memoryView := exec_keepsMemoryView hp hm s t h
  exact ⟨memoryKept_of_memoryView hv, congrArg MemoryView.dma hv, congrArg MemoryView.mapper hv,
    congrArg MemoryView.mirror hv, congrArg MemoryView.apuWrites hv⟩

end Sys2Proof.Machine
end

section
/-! SUPPORT. Loads, stores, transfers, pushes and pulls (41_load_store_transfer_stack.md R120 to R138): a load of a register
with its flags, the opcode bytes of the forms, and one byte pushed or pulled; then the statements. -/

namespace Sys2Proof.Machine

/-! The load of a register, with Z and N (R120). -/

/-- A data register written. -/
def Cpu.setReg (c : Cpu) (r : Reg) (v : Byte) : Cpu :=
  match r with
  | .a => c.setA v
  | .x => c.setX v
  | .y => c.setY v

theorem Cpu.setReg_reg_other (c : Cpu) {r q : Reg} (v : Byte) (h : q ≠ r) : (c.setReg r v).reg q = c.reg q := by
  cases r <;> cases q
  case a.a | x.x | y.y => exact absurd rfl h
  all_goals rfl

theorem Cpu.load_eq_setReg (c : Cpu) (r : Reg) (v : Byte) : c.load r v = (c.setReg r v).setZN v := by cases r <;> rfl

theorem Cpu.load_reg (c : Cpu) (r : Reg) (v : Byte) : (c.load r v).reg r = v := by cases r <;> rfl

theorem Cpu.load_reg_other (c : Cpu) {r q : Reg} (v : Byte) (h : q ≠ r) : (c.load r v).reg q = c.reg q := by
  rw [Cpu.load_eq_setReg]
  exact c.setReg_reg_other v h

@[simp] theorem Cpu.load_sp (c : Cpu) (r : Reg) (v : Byte) : (c.load r v).sp = c.sp := by cases r <;> rfl

@[simp] theorem Cpu.load_pc (c : Cpu) (r : Reg) (v : Byte) : (c.load r v).pc = c.pc := by cases r <;> rfl

theorem Cpu.load_p (c : Cpu) (r : Reg) (v : Byte) : (c.load r v).p = (c.setZN v).p := by cases r <;> rfl

/-- R120: Z and N are those of the byte, the other six bits stay. -/
theorem flagsBecome_setZN (c : Cpu) (v : Byte) :
    flagsBecome c.p (c.setZN v).p none (some (v == 0x00#8)) none (some (v.getLsbD 7)) := by
  simp [flagsBecome, Cpu.setZN_p, putBit_getElem]

theorem flagsBecome_load (c : Cpu) (r : Reg) (v : Byte) :
    flagsBecome c.p (c.load r v).p none (some (v == 0x00#8)) none (some (v.getLsbD 7)) := by
  rw [Cpu.load_p]
  exact flagsBecome_setZN c v

/-- A load keeps what `c` has of the registers of `s`, except the one that it writes. -/
theorem othersKept_load {s u : State} {c : Cpu} (h : othersKept s (u.setCpu c) none) (r : Reg) (v : Byte) (n : Nat) :
    othersKept s (u.setCpu ((c.load r v).setCycles n)) (some r) := by
  obtain ⟨hreg, hsp, hpc⟩ := h
  refine ⟨fun q hq => ?_, (c.load_sp r v).trans hsp, (c.load_pc r v).trans hpc⟩
  exact (c.load_reg_other v fun e => hq (congrArg some e)).trans (hreg q nofun)

/-! The opcode bytes (30_encoding.md R84). -/

theorem opcode_of_loadForm {i : Instr} {r : Reg} {f : Form} (h : loadForm i = some (r, f)) : i.opcode = f.opcode := by
  cases i <;> cases h <;> rfl

theorem opcode_of_storeForm {i : Instr} {r : Reg} {f : Form} (h : storeForm i = some (r, f)) : i.opcode = f.opcode := by
  cases i <;> cases h <;> rfl

theorem opcode_of_registerForm {c : Cpu} {i : Instr} {op : Byte} {r : Reg} {v : Byte}
    (h : registerForm c i = some (op, r, v)) : i.opcode = op := by
  cases i <;> cases h <;> rfl

/-! One byte on the stack (R133, R134). -/

/-- The end of an instruction whose last act was a change of the CPU record. -/
theorem finish_setCpu (n : Nat) {s : State} (hf : s.fatal = none) (c : Cpu) :
    finish n (s.setCpu c) = .next (s.setCpu (c.setCycles n)) :=
  finish_running n (s := s.setCpu c) hf

/-- An instruction that ends with a push that fits. -/
theorem finish_push (n : Nat) (o : Origin) (v : Byte) {s : State} (hf : s.fatal = none) (h : s.cpu.sp ≠ 0x00#8) :
    finish n (push o v s) = .next ((s.setRam (s.ram.write (0x100 + s.cpu.sp.toNat) v)).setCpu
      ((s.cpu.setSp (s.cpu.sp - 1#8)).setCycles n)) := by
  rw [push_eq o v s h, finish_setCpu]
  exact hf

/-- R134: the byte and the state of a pull, the incremented pointer as a number. -/
theorem pull_eq_mod (s : State) :
    pull s = (s.ram.read (0x100 + (s.cpu.sp.toNat + 1) % 256), s.setCpu (s.cpu.setSp (s.cpu.sp + 1#8))) := by
  rw [pull_eq, BitVec.toNat_add]
  rfl

/-! The statements. -/

/-- Settles O12: a load is one operand read and one register load. -/
theorem loadResult : Obligations.LoadResult := by
  intro i r f s hform hf a v
  have hexec := (exec_load hform s).trans (readOp_eq f.mode f.base f.eligible _ hf)
  refine ⟨opcode_of_loadForm hform, _, hexec, rfl, Cpu.load_reg _ r v.1, ?_, flagsBecome_load _ r v.1,
    totalCycles_eq f.base f.eligible a.crossed⟩
  exact othersKept_load (c := s.cpu.setAddrAbs a.addr) ⟨fun _ _ => rfl, rfl, rfl⟩ r v.1 _

/-- Settles O13: a store is one Bus write in the state after its address is resolved. -/
theorem storeResult : Obligations.StoreResult := fun _ _ f s hform hf =>
  ⟨opcode_of_storeForm hform, (exec_store hform s).trans (storeOp_eq f.mode f.base _ hf)⟩

/-- Settles O14: the register load without an operand read; TXS by its own meaning. -/
theorem registerResult : Obligations.RegisterResult := by
  intro s hf
  refine ⟨fun i op r v hform => ?_, rfl, registerOp_eq 2 (fun c => c.setSp c.x) hf⟩
  have hexec := (exec_register s hform).trans (registerOp_eq 2 _ hf)
  refine ⟨opcode_of_registerForm hform, _, hexec, rfl, Cpu.load_reg _ r v, ?_, flagsBecome_load _ r v, rfl⟩
  exact othersKept_load (c := s.cpu) ⟨fun _ _ => rfl, rfl, rfl⟩ r v 2

/-- Settles O26: each is one push. -/
theorem pushResult : Obligations.PushResult := fun _ hf h =>
  ⟨rfl, rfl, finish_push 3 _ _ hf h, finish_push 3 _ _ hf h⟩

/-- Settles O27: each is one pull; PLA then loads `A`, PLP loads `P`. -/
theorem pullResult : Obligations.PullResult := by
  intro s hf v
  have hpla : exec .pla s = .next (s.setCpu (((s.cpu.setSp (s.cpu.sp + 1#8)).loadA v).setCycles 4)) := by
    change execPla s = _
    rw [execPla, pull_eq_mod]
    exact finish_setCpu 4 hf _
  have hplp : exec .plp s =
      .next (s.setCpu (((s.cpu.setSp (s.cpu.sp + 1#8)).setP (statusCanonical v)).setCycles 4)) := by
    change execPlp s = _
    rw [execPlp, pull_eq_mod]
    exact finish_setCpu 4 hf _
  exact ⟨rfl, rfl, ⟨_, hpla, rfl, rfl, rfl, rfl, rfl, rfl, rfl, flagsBecome_setZN _ v⟩, hplp⟩

end Sys2Proof.Machine
end

section
/-! SUPPORT. The register frame (files 41 to 45): what an instruction may write in the CPU record, and that the shapes of a
meaning write nothing else there. -/

namespace Sys2Proof.Machine

/-! What may be written. -/

/-- The part of the CPU record that an instruction may write beside `cycles` and the address latches. -/
structure Writes where
  dest : Option Reg
  stack : Bool
  pc : Bool
  flags : Byte

/-- What the rule of an instruction lets it write. -/
def instrWrites (i : Instr) : Writes where
  dest := destination i
  stack := movesStack i
  pc := writesPc i
  flags := flagsWritten i

/-- `d` is `c` but for what may be written. -/
def keptBut (w : Writes) (c d : Cpu) : Prop :=
  (∀ q, w.dest ≠ some q → d.reg q = c.reg q) ∧ (w.stack = false → d.sp = c.sp) ∧ (w.pc = false → d.pc = c.pc) ∧
  d.p &&& ~~~ w.flags = c.p &&& ~~~ w.flags ∧ d.opcode = c.opcode

theorem keptBut.refl (w : Writes) (c : Cpu) : keptBut w c c := ⟨fun _ _ => rfl, fun _ => rfl, fun _ => rfl, rfl, rfl⟩

/-- A flag that may be written does not show under the mask of the others. -/
theorem putBit_and_complement {p m : Byte} {k : Nat} (hk : k < 8) (hm : m.getLsbD k = true) (b : Bool) :
    putBit p k b &&& ~~~ m = p &&& ~~~ m := by
  apply BitVec.eq_of_getLsbD_eq
  intro j hj
  rw [BitVec.getLsbD_and, BitVec.getLsbD_and, putBit_getLsbD p b j hk]
  by_cases e : j = k
  · simp [e, hm]
  · rw [if_neg e]

namespace keptBut

variable {w : Writes} {c d : Cpu} (h : keptBut w c d)
include h

/-! Writes of one field. -/

theorem setSp (v : Byte) (hw : w.stack = true) : keptBut w c (d.setSp v) := by
  obtain ⟨hreg, -, hrest⟩ := h
  exact ⟨hreg, fun e => absurd (e.symm.trans hw) nofun, hrest⟩

theorem setPc (v : Word) (hw : w.pc = true) : keptBut w c (d.setPc v) := by
  obtain ⟨hreg, hsp, -, hrest⟩ := h
  exact ⟨hreg, hsp, fun e => absurd (e.symm.trans hw) nofun, hrest⟩

/-- PLP and RTI load all of `P`. -/
theorem setP (v : Byte) (hw : w.flags = 0xFF#8) : keptBut w c (d.setP v) := by
  obtain ⟨hreg, hsp, hpc, -, hop⟩ := h
  refine ⟨hreg, hsp, hpc, ?_, hop⟩
  rw [hw]
  exact BitVec.and_zero.trans BitVec.and_zero.symm

theorem setFlag {k : Nat} (b : Bool) (hk : k < 8) (hw : w.flags.getLsbD k = true) : keptBut w c (d.setFlag k b) := by
  obtain ⟨hreg, hsp, hpc, hp, hop⟩ := h
  exact ⟨hreg, hsp, hpc, (putBit_and_complement hk hw b).trans hp, hop⟩

theorem setZN (v : Byte) (hz : w.flags.getLsbD 1 = true) (hn : w.flags.getLsbD 7 = true) : keptBut w c (d.setZN v) :=
  (h.setFlag _ (by decide) hz).setFlag _ (by decide) hn

theorem setReg {r : Reg} (v : Byte) (hw : w.dest = some r) : keptBut w c (d.setReg r v) := by
  obtain ⟨hreg, hrest⟩ := h
  have hother : ∀ q, w.dest ≠ some q → (d.setReg r v).reg q = c.reg q := fun q hq =>
    (d.setReg_reg_other v fun e => hq (by rw [hw, e])).trans (hreg q hq)
  cases r <;> exact ⟨hother, hrest⟩

/-! The operations (files 41 to 43). -/

theorem load {r : Reg} (v : Byte) (hw : w.dest = some r) (hf : w.flags = 0x82#8) : keptBut w c (d.load r v) := by
  rw [Cpu.load_eq_setReg]
  exact (h.setReg v hw).setZN v (by rw [hf]; decide) (by rw [hf]; decide)

theorem addWithCarry (m : Byte) (hw : w.dest = some .a) (hf : w.flags = 0xC3#8) : keptBut w c (d.addWithCarry m) := by
  have hflag : ∀ k ∈ [0, 1, 6, 7], w.flags.getLsbD k = true := by rw [hf]; decide
  exact (((h.setFlag _ (by decide) (hflag 0 (by decide))).setFlag _ (by decide) (hflag 6 (by decide))).setReg
    (r := .a) _ hw).setZN _ (hflag 1 (by decide)) (hflag 7 (by decide))

theorem compare (r m : Byte) (hf : w.flags = 0x83#8) : keptBut w c (d.compare r m) := by
  have hflag : ∀ k ∈ [0, 1, 7], w.flags.getLsbD k = true := by rw [hf]; decide
  exact ((h.setFlag _ (by decide) (hflag 0 (by decide))).setFlag _ (by decide) (hflag 1 (by decide))).setFlag _
    (by decide) (hflag 7 (by decide))

theorem bitTest (m : Byte) (hf : w.flags = 0xC2#8) : keptBut w c (d.bitTest m) := by
  have hflag : ∀ k ∈ [1, 6, 7], w.flags.getLsbD k = true := by rw [hf]; decide
  exact ((h.setFlag _ (by decide) (hflag 1 (by decide))).setFlag _ (by decide) (hflag 7 (by decide))).setFlag _
    (by decide) (hflag 6 (by decide))

theorem incDec (b : Bool) (m : Byte) (hf : w.flags = 0x82#8) : keptBut w c (incDecOp b d m).2 := by
  have hflag : ∀ k ∈ [1, 7], w.flags.getLsbD k = true := by rw [hf]; decide
  cases b <;> exact h.setZN _ (hflag 1 (by decide)) (hflag 7 (by decide))

theorem shift (k : Shift) (m : Byte) (hf : w.flags = 0x83#8) : keptBut w c (k.op d m).2 := by
  have hflag : ∀ k ∈ [0, 1, 7], w.flags.getLsbD k = true := by rw [hf]; decide
  rw [Shift.op_cpu]
  exact (h.setFlag _ (by decide) (hflag 0 (by decide))).setZN _ (hflag 1 (by decide)) (hflag 7 (by decide))

end keptBut

/-! The shapes of a meaning. -/

/-- The next state that an outcome gives, if it gives one, has the CPU record of `s` but for what may be written. -/
def keepsBut (w : Writes) (s : State) (o : Out) : Prop := outHolds (fun t => keptBut w s.cpu t.cpu) o

theorem finish_keepsBut {w : Writes} {s t : State} (n : Nat) (h : keptBut w s.cpu t.cpu) : keepsBut w s (finish n t) :=
  outHolds_next (andThen_keeps (fun u => keptBut w s.cpu u.cpu) h fun _ => h)

theorem resolve_keptBut (w : Writes) (m : Mode) (s : State) : keptBut w s.cpu (resolve m s).st.cpu := by
  rw [resolve_cpu]
  exact keptBut.refl w s.cpu

theorem operand_keptBut (w : Writes) (m : Mode) (s : State) : keptBut w s.cpu (operand m (resolve m s)).2.cpu := by
  rw [operand_cpu]
  exact resolve_keptBut w m s

theorem readOp_keepsBut {w : Writes} {f : Cpu → Byte → Cpu} (hf : ∀ {c d} v, keptBut w c d → keptBut w c (f d v))
    (m : Mode) (base : Nat) (e : Bool) (s : State) : keepsBut w s (readOp m base e f s) :=
  finish_keepsBut _ (hf _ (operand_keptBut w m s))

theorem storeOp_keepsBut (w : Writes) (m : Mode) (base : Nat) (v : Byte) (s : State) :
    keepsBut w s (storeOp m base v s) := by
  refine finish_keepsBut base ?_
  rw [memWrite_cpu]
  exact resolve_keptBut w m s

/-- R180: the accumulator form alone writes a data register. -/
theorem writeBack_keptBut {w : Writes} {c : Cpu} {s : State} (m : Mode) (a : Word) (v : Byte)
    (hw : m = .acc → w.dest = some .a) (h : keptBut w c s.cpu) : keptBut w c (writeBack m a v s).cpu := by
  cases m
  case acc => exact h.setReg (r := .a) v (hw rfl)
  all_goals exact (memWrite_cpu a v s).symm ▸ h

theorem modifyOp_keepsBut {w : Writes} {f : Cpu → Byte → Byte × Cpu}
    (hf : ∀ {c d} v, keptBut w c d → keptBut w c (f d v).2) {m : Mode} (hw : m = .acc → w.dest = some .a) (base : Nat)
    (s : State) : keepsBut w s (modifyOp m base f s) :=
  finish_keepsBut base (writeBack_keptBut m _ _ hw (hf _ (operand_keptBut w m s)))

theorem registerOp_keepsBut {w : Writes} {f : Cpu → Cpu} (hf : ∀ c, keptBut w c (f c)) (base : Nat) (s : State) :
    keepsBut w s (registerOp base f s) :=
  finish_keepsBut base (hf s.cpu)

theorem branch_keepsBut {w : Writes} (hw : w.pc = true) (cond : Bool) (d : Byte) (s : State) :
    keepsBut w s (branch cond d s) := by
  have h : keptBut w s.cpu (s.cpu.setAddrRel (sext16 d)) := keptBut.refl w s.cpu
  cases cond
  · exact finish_keepsBut _ h
  · exact finish_keepsBut _ (h.setPc _ hw)

/-! The stack and the exceptions (41 R133, 45 R218). -/

theorem push_keptBut {w : Writes} {c : Cpu} {s : State} (o : Origin) (v : Byte) (hw : w.stack = true)
    (h : keptBut w c s.cpu) : keptBut w c (push o v s).cpu := by
  by_cases hs : s.cpu.sp = 0x00#8
  · rw [push_boundary o v s hs]
    exact h
  · rw [push_eq o v s hs]
    exact h.setSp _ hw

theorem pushWord_keptBut {w : Writes} {c : Cpu} {s : State} (o : Origin) (v : Word) (hw : w.stack = true)
    (h : keptBut w c s.cpu) : keptBut w c (pushWord o v s).cpu := by
  have hhigh := push_keptBut o (hiByte v) hw h
  exact andThen_keeps (fun t => keptBut w c t.cpu) hhigh fun _ => push_keptBut o (loByte v) hw hhigh

theorem loadVector_keptBut {w : Writes} {c : Cpu} {s : State} (vector : Word) (hw : w.pc = true)
    (h : keptBut w c s.cpu) : keptBut w c (loadVector vector s).cpu := by
  refine keptBut.setPc (d := (memRead16 vector s).2.cpu) ?_ _ hw
  simpa [memRead16] using h

theorem takeException_keptBut {w : Writes} {c : Cpu} {s : State} (o : Origin) (vector : Word) (status : Byte)
    (hstack : w.stack = true) (hpc : w.pc = true) (hflag : w.flags.getLsbD interruptBit = true)
    (h : keptBut w c s.cpu) : keptBut w c (takeException o vector status s).cpu := by
  have hword := pushWord_keptBut o s.cpu.pc hstack h
  refine andThen_keeps (fun t => keptBut w c t.cpu) hword fun _ => ?_
  have hstatus := push_keptBut o status hstack hword
  exact andThen_keeps (fun t => keptBut w c t.cpu) hstatus fun _ =>
    loadVector_keptBut vector hpc (hstatus.setFlag true (by decide) hflag)

theorem pull_keptBut {w : Writes} (s : State) (hw : w.stack = true) : keptBut w s.cpu (pull s).2.cpu := by
  rw [pull_eq]
  exact (keptBut.refl w s.cpu).setSp _ hw

theorem pullWord_keptBut {w : Writes} (s : State) (hw : w.stack = true) : keptBut w s.cpu (pullWord s).2.cpu := by
  rw [pullWord_eq]
  exact (keptBut.refl w s.cpu).setSp _ hw

theorem returnFromException_keptBut {w : Writes} (s : State) (hstack : w.stack = true) (hpc : w.pc = true)
    (hflags : w.flags = 0xFF#8) : keptBut w s.cpu (returnFromException s).cpu := by
  rw [returnFromException_eq]
  exact (((keptBut.refl w s.cpu).setSp _ hstack).setP _ hflags).setPc _ hpc

/-! The families of instructions: what their rules let them write, and that they write no more. -/

theorem exec_load_keepsBut {i : Instr} {r : Reg} {f : Form} (h : loadForm i = some (r, f)) (s : State) :
    keepsBut (instrWrites i) s (exec i s) := by
  have hw : instrWrites i = ⟨some r, false, false, 0x82#8⟩ := by cases i <;> cases h <;> rfl
  rw [exec_load h, hw]
  exact readOp_keepsBut (fun v h => h.load v rfl rfl) _ _ _ s

theorem exec_add_keepsBut {i : Instr} {b : Bool} {f : Form} (h : addForm i = some (b, f)) (s : State) :
    keepsBut (instrWrites i) s (exec i s) := by
  have hw : instrWrites i = ⟨some .a, false, false, 0xC3#8⟩ := by cases i <;> cases h <;> rfl
  rw [exec_add h, hw]
  exact readOp_keepsBut (fun v h => h.addWithCarry _ rfl rfl) _ _ _ s

theorem exec_logic_keepsBut {i : Instr} {k : Logic} {f : Form} (h : logicForm i = some (k, f)) (s : State) :
    keepsBut (instrWrites i) s (exec i s) := by
  have hw : instrWrites i = ⟨some .a, false, false, 0x82#8⟩ := by cases i <;> cases h <;> rfl
  rw [exec_logic h, hw]
  exact readOp_keepsBut (fun _ h => h.load (r := .a) _ rfl rfl) _ _ _ s

theorem exec_compare_keepsBut {i : Instr} {r : Reg} {f : Form} (h : compareForm i = some (r, f)) (s : State) :
    keepsBut (instrWrites i) s (exec i s) := by
  have hw : instrWrites i = ⟨none, false, false, 0x83#8⟩ := by cases i <;> cases h <;> rfl
  rw [exec_compare h, hw]
  exact readOp_keepsBut (fun v h => h.compare _ v rfl) _ _ _ s

/-- R159, R160: INC and DEC have no accumulator form. -/
theorem mode_of_stepForm {i : Instr} {b : Bool} {f : Form} (h : stepForm i = some (b, f)) : f.mode ≠ .acc := by
  cases i <;> cases h <;> nofun

theorem exec_step_keepsBut {i : Instr} {b : Bool} {f : Form} (h : stepForm i = some (b, f)) (s : State) :
    keepsBut (instrWrites i) s (exec i s) := by
  have hw : instrWrites i = ⟨none, false, false, 0x82#8⟩ := by cases i <;> cases h <;> rfl
  rw [exec_step h, hw]
  exact modifyOp_keepsBut (fun v h => h.incDec b v rfl) (fun e => absurd e (mode_of_stepForm h)) _ s

theorem exec_shift_keepsBut {i : Instr} {k : Shift} {f : Form} (h : shiftForm i = some (k, f)) (s : State) :
    keepsBut (instrWrites i) s (exec i s) := by
  have hw : instrWrites i = ⟨if f.mode = .acc then some .a else none, false, false, 0x83#8⟩ := by
    cases i <;> cases h <;> rfl
  rw [exec_shift h, hw]
  exact modifyOp_keepsBut (fun v h => h.shift k v rfl) (fun e => if_pos e) _ s

theorem exec_register_keepsBut {i : Instr} {s : State} {op : Byte} {r : Reg} {v : Byte}
    (h : registerForm s.cpu i = some (op, r, v)) : keepsBut (instrWrites i) s (exec i s) := by
  have hw : instrWrites i = ⟨some r, false, false, 0x82#8⟩ := by cases i <;> cases h <;> rfl
  rw [exec_register s h, hw]
  exact registerOp_keepsBut (fun c => (keptBut.refl _ c).load v rfl rfl) 2 s

theorem exec_flag_keepsBut {i : Instr} {op : Byte} {k : Nat} {b : Bool} (h : flagForm i = some (op, k, b)) (s : State) :
    keepsBut (instrWrites i) s (exec i s) := by
  have hw : k < 8 ∧ (instrWrites i).flags.getLsbD k = true := by cases i <;> cases h <;> decide
  rw [exec_flag h]
  exact registerOp_keepsBut (fun c => (keptBut.refl _ c).setFlag b hw.1 hw.2) 2 s

/-- Every instruction. -/
theorem exec_keepsBut (i : Instr) (s : State) : keepsBut (instrWrites i) s (exec i s) := by
  cases i
  case ldaImm | ldaZp0 | ldaZpx | ldaAbs | ldaAbx | ldaAby | ldaIzx | ldaIzy | ldxImm | ldxZp0 | ldxZpy | ldxAbs
      | ldxAby | ldyImm | ldyZp0 | ldyZpx | ldyAbs | ldyAbx =>
    exact exec_load_keepsBut rfl s
  case staZp0 | staZpx | staAbs | staAbx | staAby | staIzx | staIzy | stxZp0 | stxZpy | stxAbs | styZp0 | styZpx
      | styAbs =>
    exact storeOp_keepsBut _ _ _ _ s
  case adcImm | adcZp0 | adcZpx | adcAbs | adcAbx | adcAby | adcIzx | adcIzy | sbcImm | sbcZp0 | sbcZpx | sbcAbs
      | sbcAbx | sbcAby | sbcIzx | sbcIzy =>
    exact exec_add_keepsBut rfl s
  case andImm | andZp0 | andZpx | andAbs | andAbx | andAby | andIzx | andIzy | oraImm | oraZp0 | oraZpx | oraAbs
      | oraAbx | oraAby | oraIzx | oraIzy | eorImm | eorZp0 | eorZpx | eorAbs | eorAbx | eorAby | eorIzx
      | eorIzy =>
    exact exec_logic_keepsBut rfl s
  case cmpImm | cmpZp0 | cmpZpx | cmpAbs | cmpAbx | cmpAby | cmpIzx | cmpIzy | cpxImm | cpxZp0 | cpxAbs | cpyImm
      | cpyZp0 | cpyAbs =>
    exact exec_compare_keepsBut rfl s
  case bitZp0 | bitAbs => exact readOp_keepsBut (fun v h => h.bitTest v rfl) _ _ _ s
  case incZp0 | incZpx | incAbs | incAbx | decZp0 | decZpx | decAbs | decAbx =>
    exact exec_step_keepsBut rfl s
  case aslAcc | aslZp0 | aslZpx | aslAbs | aslAbx | lsrAcc | lsrZp0 | lsrZpx | lsrAbs | lsrAbx | rolAcc | rolZp0
      | rolZpx | rolAbs | rolAbx | rorAcc | rorZp0 | rorZpx | rorAbs | rorAbx =>
    exact exec_shift_keepsBut rfl s
  case tax | tay | txa | tya | tsx | inx | iny | dex | dey =>
    exact exec_register_keepsBut rfl
  case clc | sec | cli | sei | clv | cld | sed => exact exec_flag_keepsBut rfl s
  case txs => exact registerOp_keepsBut (f := fun c => c.setSp c.x) (fun c => (keptBut.refl _ c).setSp _ rfl) 2 s
  case nop => exact registerOp_keepsBut (keptBut.refl _) 2 s
  case bcc | bcs | beq | bne | bmi | bpl | bvc | bvs => exact branch_keepsBut rfl _ _ s
  case jmpAbs | jmpInd => exact finish_keepsBut _ ((resolve_keptBut _ _ s).setPc _ rfl)
  case jsr a =>
    have hpush := pushWord_keptBut (w := instrWrites (.jsr a)) (instrOrigin 3 s) (s.cpu.pc - 1#16) rfl
      (resolve_keptBut _ (.abs a) s)
    exact finish_keepsBut 6 (andThen_keeps (fun t => keptBut _ s.cpu t.cpu) hpush fun _ => hpush.setPc _ rfl)
  case rts => exact finish_keepsBut 6 ((pullWord_keptBut s rfl).setPc _ rfl)
  case pha | php => exact finish_keepsBut 3 (push_keptBut _ _ rfl (keptBut.refl _ _))
  case pla => exact finish_keepsBut 4 ((pull_keptBut s rfl).load (r := .a) _ rfl rfl)
  case plp => exact finish_keepsBut 4 ((pull_keptBut s rfl).setP _ rfl)
  case brk =>
    exact finish_keepsBut 7 (takeException_keptBut _ _ _ rfl rfl rfl ((keptBut.refl _ s.cpu).setPc _ rfl))
  case rti => exact finish_keepsBut 6 (returnFromException_keptBut s rfl rfl rfl)
  case illegal => exact outHolds_next (keptBut.refl _ s.cpu)

/-! The statement. -/

/-- No elementary change of the CPU's work touches the Bus counter or the parameters. -/
theorem clkParams_cpuClosed (n : Nat) (p : Params) : CpuClosed fun t => t.clk = n ∧ t.params = p where
  read a h := by rwa [memRead_clk, memRead_params]
  write a v h := by rwa [memWrite_clk, memWrite_params]
  cpu _ _ h := h
  stop _ h := h

/-- Settles O32: the frame of the CPU record family by family, the rest by the traversal of the CPU's work. -/
theorem registerFrame : Obligations.RegisterFrame := by
  intro i s t h
  obtain ⟨hreg, hsp, hpc, hflags, hop⟩ := exec_keepsBut i s t h
  exact ⟨hreg, hsp, hpc, hflags, hop, (clkParams_cpuClosed s.clk s.params).exec i ⟨rfl, rfl⟩ t h⟩

end Sys2Proof.Machine
end

section
/-! SUPPORT. The store frame (20_memory.md R52): a Bus write changes at most the byte at its place, and an instruction that
stores changes memory by one Bus write. -/

namespace Sys2Proof.Machine

/-! The place of a CPU address, range by range. -/

theorem storePlace_lowRam (s : State) {a : Word} (h : a.toNat < 0x2000) :
    storePlace s a = some (.ram (a.toNat % 0x800)) := if_pos h

theorem storePlace_port (s : State) {a : Word} (h : 0x2000 ≤ a.toNat) (h' : a.toNat < 0x4000) :
    storePlace s a =
      if a.toNat % 8 = 4 then some (.oam s.ppu.oamAddr.toNat)
      else if a.toNat % 8 = 7 then ppuPlace s s.ppu.vram.toNat else none := by
  unfold storePlace
  rw [if_neg (by omega), if_pos h']

theorem storePlace_addOnRam (s : State) {a : Word} (h : 0x6000 ≤ a.toNat) (h' : a.toNat < 0x8000) :
    storePlace s a = some (.prgRam (a.toNat % 0x2000)) := by
  unfold storePlace
  rw [if_neg (by omega), if_neg (by omega), if_neg (by omega), if_pos h']

/-- R51, R374: in RAM and add-on RAM a read answers the byte at the address's place, which is the same in every state. -/
theorem memRead_storePlace {a : Word} (h : standsMemory a = true) (h' : a.toNat < 0x8000) :
    ∃ p, ∀ s, storePlace s a = some p ∧ (memRead a s).1 = s.byteAt p := by
  simp only [standsMemory, Bool.or_eq_true, decide_eq_true_eq] at h
  rcases h with hlow | hhigh
  · exact ⟨_, fun s => ⟨storePlace_lowRam s hlow, by rw [memRead_lowRam a s hlow]; rfl⟩⟩
  · exact ⟨_, fun s => ⟨storePlace_addOnRam s hhigh h', by rw [memRead_addOnRam a s hhigh h']; rfl⟩⟩

/-! The Bus write by places. -/

/-- R55, R236, R242, R246: between the ports and the cartridge a write reaches the DMA record, the controllers and the
sound unit. -/
theorem memWrite_io (a : Word) (v : Byte) (s : State) (h : 0x4000 ≤ a.toNat) (h' : a.toNat < 0x6000) :
    ∃ d c w, memWrite a v s = ((s.setDma d).setPads c).setApuWrites w := by
  unfold memWrite
  dsimp only
  rw [if_neg (by omega), if_neg (by omega), if_pos h']
  split
  · exact ⟨startDma s.dma v, s.pads, s.apuWrites, rfl⟩
  split
  · exact ⟨s.dma, strobeWrite s.pads v, s.apuWrites, rfl⟩
  split
  · exact ⟨s.dma, s.pads, (a, v) :: s.apuWrites, rfl⟩
  · exact ⟨s.dma, s.pads, s.apuWrites, rfl⟩

theorem byteAt_ppuWrite_other {s : State} {a : Nat} {p : Place} (v : Byte) (h : ppuPlace s a ≠ some p) :
    (ppuWrite s a v).byteAt p = s.byteAt p := by
  rw [ppuWrite_eq_storeAt]
  cases hq : ppuPlace s a with
  | none => rfl
  | some q => exact byteAt_storeAt_other s v (by rintro rfl; exact h hq)

/-- A PPU record with the same four memories. -/
theorem byteAt_setPpu (s : State) (p : Place) {q : Ppu} (hnt0 : q.nt0 = s.ppu.nt0) (hnt1 : q.nt1 = s.ppu.nt1)
    (hpal : q.pal = s.ppu.pal) (hoam : q.oam = s.ppu.oam) : (s.setPpu q).byteAt p = s.byteAt p := by
  cases p
  case table0 k => exact congrArg (Memory.read · k) hnt0
  case table1 k => exact congrArg (Memory.read · k) hnt1
  case palette k => exact congrArg (Memory.read · k) hpal
  case oam k => exact congrArg (Memory.read · k) hoam
  all_goals rfl

theorem scrollWrite_frame (p : Ppu) (d : Byte) :
    ∃ t x l, scrollWrite p d = { p with tram := t, fineX := x, latch := l } := by
  unfold scrollWrite
  split
  · exact ⟨_, p.fineX, _, rfl⟩
  · exact ⟨_, _, _, rfl⟩

theorem addressWrite_frame (p : Ppu) (d : Byte) :
    ∃ t u l, addressWrite p d = { p with tram := t, vram := u, latch := l } := by
  unfold addressWrite
  split
  · exact ⟨_, _, _, rfl⟩
  · exact ⟨_, p.vram, _, rfl⟩

/-- 47 R275 to R282: of the ports only the two data ports store a byte. -/
theorem byteAt_portWrite_other {s : State} {k : Nat} {p : Place} (v : Byte) (hk : k < 8)
    (hoam : k = 4 → p ≠ .oam s.ppu.oamAddr.toNat) (hdata : k = 7 → ppuPlace s s.ppu.vram.toNat ≠ some p) :
    (portWrite s k v).byteAt p = s.byteAt p := by
  interval_cases k
  · exact byteAt_setPpu s p (q := controlWrite s.ppu v) rfl rfl rfl rfl
  · exact byteAt_setPpu s p (q := { s.ppu with mask := v }) rfl rfl rfl rfl
  · rfl
  · exact byteAt_setPpu s p (q := { s.ppu with oamAddr := v }) rfl rfl rfl rfl
  · have hother := byteAt_storeAt_other s (p := .oam s.ppu.oamAddr.toNat) v (hoam rfl)
    exact (byteAt_setPpu (s.storeAt (.oam _) v) p (q := oamDataWrite s.ppu v) rfl rfl rfl rfl).trans hother
  · obtain ⟨_, _, _, e⟩ := scrollWrite_frame s.ppu v
    exact byteAt_setPpu s p (by rw [e]) (by rw [e]) (by rw [e]) (by rw [e])
  · obtain ⟨_, _, _, e⟩ := addressWrite_frame s.ppu v
    exact byteAt_setPpu s p (by rw [e]) (by rw [e]) (by rw [e]) (by rw [e])
  · have hother := byteAt_ppuWrite_other v (hdata rfl)
    exact (byteAt_setPpu _ p (q := (ppuWrite s s.ppu.vram.toNat v).ppu.advance) rfl rfl rfl rfl).trans hother

/-- 49 R379 to R393: the mapper's registers are no memory. -/
theorem byteAt_regWrite (s : State) (a : Nat) (v : Byte) (p : Place) : (regWrite s a v).byteAt p = s.byteAt p := by
  unfold regWrite
  split <;> cases p <;> rfl

/-- R52: a Bus write changes no byte but the one at its place. -/
theorem byteAt_memWrite_other {a : Word} {s : State} {p : Place} (v : Byte) (h : storePlace s a ≠ some p) :
    (memWrite a v s).byteAt p = s.byteAt p := by
  by_cases hram : a.toNat < 0x2000
  · rw [storePlace_lowRam s hram] at h
    rw [memWrite_lowRam a v s hram]
    exact byteAt_storeAt_other s (p := .ram _) v fun e => h (congrArg some e.symm)
  by_cases hport : a.toNat < 0x4000
  · rw [storePlace_port s (by omega) hport] at h
    rw [memWrite_port a v s (by omega) hport]
    refine byteAt_portWrite_other v (Nat.mod_lt _ (by decide)) (fun e => ?_) (fun e => ?_)
    · rintro rfl
      exact h (if_pos e)
    · rwa [if_neg (by omega), if_pos e] at h
  by_cases hio : a.toNat < 0x6000
  · obtain ⟨d, c, w, e⟩ := memWrite_io a v s (by omega) hio
    rw [e]
    cases p <;> rfl
  by_cases hprg : a.toNat < 0x8000
  · rw [storePlace_addOnRam s (by omega) hprg] at h
    rw [memWrite_addOnRam a v s (by omega) hprg]
    exact byteAt_storeAt_other s (p := .prgRam _) v fun e => h (congrArg some e.symm)
  · rw [memWrite_cartridge a v s (by omega), cartWrite, if_neg hprg]
    exact byteAt_regWrite s _ v p

theorem portWrite_mapper (s : State) (k : Nat) (v : Byte) : (portWrite s k v).mapper = s.mapper := by
  unfold portWrite dataWrite
  split
  case h_8 => exact ppuWrite_mapper s _ v
  all_goals rfl

/-- R374: only a write in the program window reaches the mapper. -/
theorem memWrite_mapper {a : Word} (v : Byte) (s : State) (h : a.toNat < 0x8000) :
    (memWrite a v s).mapper = s.mapper := by
  by_cases hram : a.toNat < 0x2000
  · rw [memWrite_lowRam a v s hram]
    rfl
  by_cases hport : a.toNat < 0x4000
  · rw [memWrite_port a v s (by omega) hport]
    exact portWrite_mapper s _ v
  by_cases hio : a.toNat < 0x6000
  · obtain ⟨d, c, w, e⟩ := memWrite_io a v s (by omega) hio
    rw [e]
    rfl
  · rw [memWrite_addOnRam a v s (by omega) h]
    rfl

/-- A read of memory after a Bus write elsewhere. -/
theorem memRead_memWrite_other {a b : Word} {s : State} (v : Byte) (hb : standsMemory b = true)
    (hplace : storePlace s a = none ∨ storePlace s b ≠ storePlace s a) (hbank : b.toNat < 0x8000 ∨ a.toNat < 0x8000) :
    (memRead b (memWrite a v s)).1 = (memRead b s).1 := by
  by_cases hlow : b.toNat < 0x8000
  · obtain ⟨p, hp⟩ := memRead_storePlace hb hlow
    have hne : storePlace s a ≠ some p := by
      rw [← (hp s).1]
      rcases hplace with e | e
      · rw [e, (hp s).1]
        nofun
      · exact e.symm
    rw [(hp _).2, (hp s).2, byteAt_memWrite_other v hne]
  · rw [memRead_cartridge b _ (by omega), memRead_cartridge b s (by omega)]
    unfold cartRead prgOffset
    rw [if_neg hlow, if_neg hlow, memWrite_cart, memWrite_mapper v s (by omega)]

/-! The instructions that store. -/

/-- The end of an instruction changes at most the CPU record. -/
theorem finish_onlyCpu {n : Nat} {s t : State} (h : finish n s = .next t) : onlyCpu s t := by
  cases hf : s.fatal with
  | none =>
    rw [finish_running n hf] at h
    cases h
    rfl
  | some x =>
    rw [finish_stopped n hf] at h
    cases h
    rfl

theorem writeBack_memory {m : Mode} (h : m ≠ .acc) (a : Word) (v : Byte) (s : State) :
    writeBack m a v s = memWrite a v s := by
  cases m
  case acc => exact absurd rfl h
  all_goals rfl

/-- The forms that store: the stores, and the read-modify-write forms of memory. -/
theorem storedMode_cases {i : Instr} {m : Mode} (h : storedMode i = some m) :
    (∃ r f, storeForm i = some (r, f) ∧ f.mode = m) ∨
    (storeForm i = none ∧ m ≠ .acc ∧ ∃ base f, ∀ s, exec i s = modifyOp m base f s) := by
  have hnone : (∀ r f, storeForm i = some (r, f) → False) → storeForm i = none := fun hstore =>
    Option.eq_none_iff_forall_ne_some.mpr fun ⟨r, f⟩ => hstore r f
  unfold storedMode at h
  split at h
  · next r f hform => exact .inl ⟨r, f, hform, Option.some.inj h⟩
  · next b f hform hstore =>
      cases h
      exact .inr ⟨hnone hstore, mode_of_stepForm hform, _, _, exec_step hform⟩
  · next k f hform hstore _ =>
      split at h
      · nomatch h
      · next hmode =>
          cases h
          exact .inr ⟨hnone hstore, hmode, _, _, exec_shift hform⟩
  · nomatch h

/-- R124, R159, R180: an instruction that stores makes one Bus write at its resolved address, and changes nothing after it
but the CPU record. -/
theorem exec_stored {i : Instr} {m : Mode} {s t : State} (hm : storedMode i = some m) (h : exec i s = .next t) :
    ∃ v, onlyCpu (memWrite (resolve m s).addr v (storeState i m s)) t := by
  unfold storeState
  rcases storedMode_cases hm with ⟨r, f, hform, rfl⟩ | ⟨hnone, hacc, base, f, hexec⟩
  · rw [exec_store hform] at h
    rw [hform]
    exact ⟨_, finish_onlyCpu h⟩
  · rw [hexec] at h
    rw [hnone]
    have ht := finish_onlyCpu h
    rw [writeBack_memory hacc, memWrite_setCpu] at ht
    exact ⟨_, ht⟩

theorem memoryView_storeState (i : Instr) (m : Mode) (s : State) : (storeState i m s).memoryView = s.memoryView := by
  unfold storeState
  split
  · exact memoryView_resolve m s
  · exact (memoryView_operand m _).trans (memoryView_resolve m s)

/-- Settles O34: one Bus write in a state that has the memory of `s`. -/
theorem storeFrame : Obligations.StoreFrame := by
  intro i m s t hm h a w
  obtain ⟨v, ht⟩ := exec_stored hm h
  obtain ⟨hcart, hbytes, hreads, -⟩ := memoryKept_of_memoryView (memoryView_storeState i m s)
  rw [ht]
  refine ⟨(memWrite_cart a v w).trans hcart, fun p hp => ?_, fun b hb hplace hbank => ?_⟩
  · have hkept : (memWrite a v w).byteAt p = s.byteAt p := (byteAt_memWrite_other v hp).trans (hbytes p)
    cases p <;> exact hkept
  · rw [memRead_setCpu]
    exact (memRead_memWrite_other v hb hplace hbank).trans (hreads b hb)

end Sys2Proof.Machine
end

section
/-! SUPPORT. The stack frame (41 R133, 44 R191, 45 R218): a sequence of pushes writes no byte outside the stack bytes that
its stack pointer passes. -/

namespace Sys2Proof.Machine

/-! Between two stack pointers. -/

/-- From `s` to `t` the stack pointer went down by at most `n`, and of the memories at most the RAM bytes that it passed
were written. -/
def pushedAtMost (n : Nat) (s t : State) : Prop :=
  t.memoryView = (s.setRam t.ram).memoryView ∧
  t.cpu.sp.toNat ≤ s.cpu.sp.toNat ∧ s.cpu.sp.toNat ≤ t.cpu.sp.toNat + n ∧
  ∀ j, j ≤ 0x100 + t.cpu.sp.toNat ∨ 0x100 + s.cpu.sp.toNat < j → t.ram.read j = s.ram.read j

theorem pushedAtMost.refl (s : State) : pushedAtMost 0 s s := ⟨rfl, Nat.le_refl _, Nat.le_refl _, fun _ _ => rfl⟩

theorem pushedAtMost.mono {m n : Nat} {s t : State} (h : pushedAtMost m s t) (hn : m ≤ n) : pushedAtMost n s t := by
  obtain ⟨hview, hdown, hdepth, hram⟩ := h
  exact ⟨hview, hdown, by omega, hram⟩

theorem pushedAtMost.setCpu {n : Nat} {s t : State} (h : pushedAtMost n s t) {c : Cpu} (hc : c.sp = t.cpu.sp) :
    pushedAtMost n s (t.setCpu c) := by
  unfold pushedAtMost
  rw [State.setCpu_cpu, hc]
  exact h

/-- R133, R422: a push stores at the pointer and decrements it, or meets the boundary and does neither. -/
theorem pushedAtMost.push {n : Nat} {s t : State} (h : pushedAtMost n s t) (o : Origin) (v : Byte) :
    pushedAtMost (n + 1) s (push o v t) := by
  by_cases hsp : t.cpu.sp = 0x00#8
  · rw [push_boundary o v t hsp]
    exact h.mono (Nat.le_succ n)
  · obtain ⟨hview, hdown, hdepth, hram⟩ := h
    have hpos : 0 < t.cpu.sp.toNat := by bv_omega
    have hdec : (t.cpu.sp - 1#8).toNat = t.cpu.sp.toNat - 1 := by bv_omega
    rw [push_eq o v t hsp]
    refine ⟨?_, ?_, ?_, fun j hj => ?_⟩
    · exact congrArg (fun w : MemoryView => { w with ram := t.ram.write (0x100 + t.cpu.sp.toNat) v }) hview
    · simp only [State.setCpu_cpu, Cpu.setSp_sp, hdec]
      omega
    · simp only [State.setCpu_cpu, Cpu.setSp_sp, hdec]
      omega
    · simp only [State.setCpu_cpu, Cpu.setSp_sp, hdec] at hj
      exact (Memory.read_write_other t.ram v (by omega)).trans (hram j (by omega))

theorem pushedAtMost.andThen {m n : Nat} {s t : State} {f : State → State} (h : pushedAtMost m s t) (hn : m ≤ n)
    (hf : pushedAtMost n s (f t)) : pushedAtMost n s (andThen t f) :=
  andThen_keeps (pushedAtMost n s) (h.mono hn) fun _ => hf

theorem pushedAtMost.pushWord {n : Nat} {s t : State} (h : pushedAtMost n s t) (o : Origin) (w : Word) :
    pushedAtMost (n + 2) s (pushWord o w t) :=
  (h.push o (hiByte w)).andThen (Nat.le_succ _) ((h.push o (hiByte w)).push o (loByte w))

/-- Loading `PC` from a vector moves no pointer and writes no memory. -/
theorem pushedAtMost.loadVector {n : Nat} {s t : State} (h : pushedAtMost n s t) {v : Word} (hv : 0x6000 ≤ v.toNat)
    (hv' : v.toNat < 0xFFFF) : pushedAtMost n s (loadVector v t) := by
  rw [loadVector_eq v t hv hv']
  exact h.setCpu rfl

theorem pushedAtMost.takeException {n : Nat} {s t : State} (h : pushedAtMost n s t) (o : Origin) {v : Word}
    (hv : 0x6000 ≤ v.toNat) (hv' : v.toNat < 0xFFFF) (status : Byte) :
    pushedAtMost (n + 3) s (takeException o v status t) := by
  have hword := h.pushWord o t.cpu.pc
  have hstatus := hword.push o status
  refine hword.andThen (Nat.le_succ _) (hstatus.andThen (Nat.le_refl _) (.loadVector ?_ hv hv'))
  exact hstatus.setCpu rfl

theorem pushedAtMost.finish {n k : Nat} {s t u : State} (h : pushedAtMost n s t) (hu : finish k t = .next u) :
    pushedAtMost n s u := by
  cases hu
  exact h.andThen (Nat.le_refl n) (h.setCpu rfl)

/-! What it leaves alone. -/

/-- The bytes that the pointer passed are among those of the `n` pushes. -/
theorem memoryKeptButStack_of_pushedAtMost {n : Nat} {s t : State} (h : pushedAtMost n s t) :
    memoryKeptButStack n s t := by
  obtain ⟨hview, hdown, hdepth, hram⟩ := h
  obtain ⟨hcart, hbytes, hreads, hppu⟩ := memoryKept_of_memoryView hview
  have hkept : ∀ j, (∀ k < n, k < s.cpu.sp.toNat → j ≠ 0x100 + s.cpu.sp.toNat - k) → t.ram.read j = s.ram.read j := by
    intro j hj
    refine hram j ?_
    by_contra hpassed
    exact hj (0x100 + s.cpu.sp.toNat - j) (by omega) (by omega) (by omega)
  refine ⟨hcart, fun p hp => ?_, fun a ha hplace => ?_, hppu⟩
  · cases p
    case ram j => exact hkept j fun k hk hk' e => hp k hk hk' (congrArg Place.ram e)
    all_goals exact hbytes _
  · by_cases hlow : a.toNat < 0x2000
    · simp only [memRead_lowRam a _ hlow]
      refine hkept _ fun k hk hk' e => hplace k hk hk' ?_
      rw [storePlace_lowRam s hlow, e]
    · have hhigh : 0x6000 ≤ a.toNat := by simpa [standsMemory, hlow] using ha
      have hread : memRead a (s.setRam t.ram) = (cartRead s a.toNat, s.setRam t.ram) := memRead_cartridge a _ hhigh
      rw [hreads a ha, hread, memRead_cartridge a s hhigh]

/-- Settles O35: each is a sequence of one, two or three pushes. -/
theorem stackFrame : Obligations.StackFrame := by
  intro s t w
  have h := pushedAtMost.refl s
  refine ⟨fun ht => ?_, fun ht => ?_, fun ht => ?_, fun ht => ?_⟩
  · exact memoryKeptButStack_of_pushedAtMost ((h.push _ _).finish ht)
  · exact memoryKeptButStack_of_pushedAtMost ((h.push _ _).finish ht)
  · have hpush := (h.setCpu (c := s.cpu.setAddrAbs w) rfl).pushWord (instrOrigin 3 s) (s.cpu.pc - 1#16)
    exact memoryKeptButStack_of_pushedAtMost ((hpush.andThen (Nat.le_refl 2) (hpush.setCpu rfl)).finish ht)
  · have hskip := h.setCpu (c := s.cpu.setPc (s.cpu.pc + 1#16)) rfl
    have hpush := hskip.takeException (instrOrigin 1 s) (v := 0xFFFE#16) (by decide) (by decide)
      (statusWithBreak s.cpu.p)
    exact memoryKeptButStack_of_pushedAtMost (hpush.finish ht)

end Sys2Proof.Machine
end

section
/-! SUPPORT. Arithmetic, logic, compares, BIT, INC and DEC (42_arithmetic_logic.md R150 to R160, R165): the flags of each
operation, the opcode bytes of the forms, and the sum of two bytes and a carry as a signed number; then the statements. -/

namespace Sys2Proof.Machine

/-! The flags of each operation. -/

/-- R150: C, Z, V and N of an addition. -/
theorem flagsBecome_addWithCarry (c : Cpu) (m : Byte) :
    let sum := sumWithCarry c.a m (c.p.getLsbD 0)
    let r : Byte := BitVec.ofNat 8 sum
    flagsBecome c.p (c.addWithCarry m).p (some (decide (255 < sum))) (some (r == 0x00#8))
      (some (((c.a ^^^ r) &&& (m ^^^ r)).getLsbD 7)) (some (r.getLsbD 7)) := by
  simp [flagsBecome, Cpu.addWithCarry, Cpu.setZN_p, Cpu.flag, carryBit, overflowFlagBit, putBit_getElem]

/-- R155 to R157: C, Z and N of a compare. -/
theorem flagsBecome_compare (c : Cpu) (r m : Byte) :
    flagsBecome c.p (c.compare r m).p (some (decide (m.toNat ≤ r.toNat))) (some (r == m)) none
      (some ((r - m).getLsbD 7)) := by
  simp [flagsBecome, Cpu.compare, carryBit, zeroBit, negativeBit, putBit_getElem]

/-- R158: Z of the and, N and V of the operand. -/
theorem flagsBecome_bitTest (c : Cpu) (m : Byte) :
    flagsBecome c.p (c.bitTest m).p none (some ((c.a &&& m) == 0x00#8)) (some (m.getLsbD 6)) (some (m.getLsbD 7)) := by
  simp [flagsBecome, Cpu.bitTest, overflowFlagBit, zeroBit, negativeBit, putBit_getElem]

/-! INC and DEC (R159, R160). -/

/-- The result of INC or DEC as a number modulo 256. -/
theorem incDecOp_result (b : Bool) (c : Cpu) (m : Byte) :
    (incDecOp b c m).1 = BitVec.ofNat 8 (if b then m.toNat + 1 else m.toNat + 255) := by
  cases b
  · change m - 1#8 = BitVec.ofNat 8 (m.toNat + 255)
    bv_omega
  · change m + 1#8 = BitVec.ofNat 8 (m.toNat + 1)
    bv_omega

theorem incDecOp_cpu (b : Bool) (c : Cpu) (m : Byte) : (incDecOp b c m).2 = c.setZN (incDecOp b c m).1 := by
  cases b <;> rfl

theorem mode_ne_imm_of_stepForm {i : Instr} {b : Bool} {f : Form} (h : stepForm i = some (b, f)) (v : Byte) :
    f.mode ≠ .imm v := by
  cases i <;> cases h <;> nofun

/-! The opcode bytes (30_encoding.md R84). -/

theorem opcode_of_addForm {i : Instr} {b : Bool} {f : Form} (h : addForm i = some (b, f)) : i.opcode = f.opcode := by
  cases i <;> cases h <;> rfl

theorem opcode_of_logicForm {i : Instr} {k : Logic} {f : Form} (h : logicForm i = some (k, f)) :
    i.opcode = f.opcode := by
  cases i <;> cases h <;> rfl

theorem opcode_of_compareForm {i : Instr} {r : Reg} {f : Form} (h : compareForm i = some (r, f)) :
    i.opcode = f.opcode := by
  cases i <;> cases h <;> rfl

theorem opcode_of_bitForm {i : Instr} {f : Form} (h : bitForm i = some f) : i.opcode = f.opcode := by
  cases i <;> cases h <;> rfl

theorem opcode_of_stepForm {i : Instr} {b : Bool} {f : Form} (h : stepForm i = some (b, f)) : i.opcode = f.opcode := by
  cases i <;> cases h <;> rfl

/-! Signed bytes (R165): bit 7 is the sign. -/

theorem getLsbD_seven_eq_decide (v : Byte) : v.getLsbD 7 = decide (128 ≤ v.toNat) :=
  (BitVec.msb_eq_getLsbD_last v).symm.trans (BitVec.msb_eq_decide v)

theorem toInt_eq_ite (v : Byte) : v.toInt = if 128 ≤ v.toNat then (v.toNat : Int) - 256 else v.toNat := by
  rw [BitVec.toInt_eq_msb_cond, BitVec.msb_eq_decide]
  simp

/-- R151: the one's complement as a number. -/
theorem toNat_complement (m : Byte) : (0xFF#8 - m).toNat = 255 - m.toNat := by
  have hm := m.isLt
  bv_omega

/-- R151: the one's complement as a signed number. -/
theorem toInt_complement (m : Byte) : (0xFF#8 - m).toInt = -1 - m.toInt := by
  have hm := m.isLt
  rw [toInt_eq_ite, toInt_eq_ite, toNat_complement]
  split <;> split <;> omega

/-- R165: the V formula of R150 is set exactly when the signed sum leaves the range of a byte. Two summands of unlike
signs stay in range; with like signs the sum is in range exactly when its byte has their sign. -/
theorem overflow_iff (a w : Byte) (c : Bool) :
    let r : Byte := BitVec.ofNat 8 (sumWithCarry a w c)
    let signed := a.toInt + w.toInt + c.toNat
    ((a ^^^ r) &&& (w ^^^ r)).getLsbD 7 = true ↔ signed < -128 ∨ 127 < signed := by
  intro r signed
  have hbits : ((a ^^^ r) &&& (w ^^^ r)).getLsbD 7 = true ↔
      (128 ≤ a.toNat ↔ 128 ≤ w.toNat) ∧ ¬ (128 ≤ a.toNat ↔ 128 ≤ r.toNat) := by
    rw [BitVec.getLsbD_and, BitVec.getLsbD_xor, BitVec.getLsbD_xor]
    simp only [getLsbD_seven_eq_decide, Bool.and_eq_true, bne_iff_ne, ne_eq, decide_eq_decide]
    tauto
  have hr : r.toNat = (a.toNat + w.toNat + c.toNat) % 256 := BitVec.toNat_ofNat _ _
  have hsigned : signed = a.toInt + w.toInt + c.toNat := rfl
  have hc := c.toNat_le
  have ha := a.isLt
  have hw := w.isLt
  rw [toInt_eq_ite, toInt_eq_ite] at hsigned
  rw [hbits, hr]
  omega

/-! The statements. -/

/-- Settles O15: one operand read, then the addition of R150, for SBC with the complement. -/
theorem addResult : Obligations.AddResult := by
  intro i sub f s hform hf a v w sum r
  have hexec := (exec_add hform s).trans (readOp_eq f.mode f.base f.eligible _ hf)
  refine ⟨opcode_of_addForm hform, _, hexec, rfl, rfl, ⟨fun q hq => ?_, rfl, rfl⟩,
    flagsBecome_addWithCarry (s.cpu.setAddrAbs a.addr) w, totalCycles_eq f.base f.eligible a.crossed⟩
  cases q
  case a => exact absurd rfl hq
  all_goals rfl

/-- Settles O16: the flags that O15 gives, read as signed numbers and as a borrow. -/
theorem overflowIsSigned : Obligations.OverflowIsSigned := by
  intro i sub f s t hform hf ht m c signed
  obtain ⟨-, u, hu, -, -, -, ⟨hcarry, -, -, -, -, -, hoverflow, -⟩, -⟩ := addResult i sub f s hform hf
  cases hu.symm.trans ht
  have hborrow : (!c).toNat = 1 - c.toNat := by cases c <;> rfl
  have hc := c.toNat_le
  constructor
  · have hsigned : signed = s.cpu.a.toInt + (if sub then 0xFF#8 - m else m).toInt + c.toNat := by
      cases sub
      · rfl
      · change s.cpu.a.toInt - m.toInt - (!c).toNat = s.cpu.a.toInt + (0xFF#8 - m).toInt + c.toNat
        rw [toInt_complement]
        omega
    rw [hoverflow, hsigned]
    exact overflow_iff s.cpu.a _ c
  · rintro rfl
    have hm := m.isLt
    rw [hcarry]
    change decide (255 < s.cpu.a.toNat + (0xFF#8 - m).toNat + c.toNat) = true ↔ _
    rw [decide_eq_true_iff, toNat_complement]
    omega

/-- Settles O17: one operand read and one load of `A`. -/
theorem logicResult : Obligations.LogicResult := by
  intro i k f s hform hf a v r
  have hexec := (exec_logic hform s).trans (readOp_eq f.mode f.base f.eligible _ hf)
  refine ⟨opcode_of_logicForm hform, _, hexec, rfl, rfl, ?_, flagsBecome_load _ .a r,
    totalCycles_eq f.base f.eligible a.crossed⟩
  exact othersKept_load (c := s.cpu.setAddrAbs a.addr) ⟨fun _ _ => rfl, rfl, rfl⟩ .a r _

/-- Settles O18: one operand read and one compare; N is given there for the difference of the bytes. -/
theorem compareResult : Obligations.CompareResult := by
  intro i q f s hform hf a v r
  have hexec := (exec_compare hform s).trans (readOp_eq f.mode f.base f.eligible _ hf)
  have hdiff : BitVec.ofNat 8 (r.toNat + 256 - v.1.toNat) = r - v.1 := by bv_omega
  rw [hdiff]
  exact ⟨opcode_of_compareForm hform, _, hexec, rfl, ⟨fun _ _ => rfl, rfl, rfl⟩,
    flagsBecome_compare (s.cpu.setAddrAbs a.addr) r v.1, totalCycles_eq f.base f.eligible a.crossed⟩

/-- Settles O19: one operand read and the bit test; neither form is eligible for the page-cross cycle. -/
theorem bitResult : Obligations.BitResult := by
  intro i f s hform hf a v
  have hexec := (exec_bit hform s).trans (readOp_eq f.mode f.base false _ hf)
  exact ⟨opcode_of_bitForm hform, _, hexec, rfl, ⟨fun _ _ => rfl, rfl, rfl⟩,
    flagsBecome_bitTest (s.cpu.setAddrAbs a.addr) v.1, totalCycles_eq f.base false a.crossed⟩

/-- Settles O20: no form has the accumulator or an immediate operand, so the operand is one Bus read and the result one
Bus write. -/
theorem incDecResult : Obligations.IncDecResult := by
  intro i up f s hform hf a v r
  have hacc := mode_of_stepForm hform
  have hread : operand f.mode (resolve f.mode s) = v := operand_memory a hacc (mode_ne_imm_of_stepForm hform)
  have hexec := (exec_step hform s).trans (modifyOp_memory f.mode hacc f.base _ hf)
  simp only [incDecOp_cpu, incDecOp_result, hread] at hexec
  exact ⟨opcode_of_stepForm hform, _, hexec, rfl, ⟨fun _ _ => rfl, rfl, rfl⟩,
    flagsBecome_setZN (s.cpu.setAddrAbs a.addr) r, rfl⟩

end Sys2Proof.Machine
end

section
/-! SUPPORT. Shifts and rotates (43_shift_rotate.md R180 to R184): the flags of a shift, the opcode bytes and the modes of
the forms; then the statement. -/

namespace Sys2Proof.Machine

/-- R181 to R184: C is the bit shifted out, Z and N are those of the result. -/
theorem flagsBecome_shifted (c : Cpu) (out : Bool) (r : Byte) :
    flagsBecome c.p (c.shifted out r).p (some out) (some (r == 0x00#8)) none (some (r.getLsbD 7)) := by
  simp [flagsBecome, Cpu.shifted, Cpu.setZN_p, carryBit, putBit_getElem]

/-- R180 to R184: a shift's result as a number, with the CPU record that holds its flags. -/
theorem Shift.op_eq (k : Shift) (c : Cpu) (m : Byte) :
    let r : Byte := BitVec.ofNat 8 (k.result (c.p.getLsbD 0) m)
    k.op c m = (r, c.shifted (k.out m) r) := by
  intro r
  have hr : (k.op c m).1 = r := k.op_result c m
  rw [← hr, ← Shift.op_cpu]

theorem opcode_of_shiftForm {i : Instr} {k : Shift} {f : Form} (h : shiftForm i = some (k, f)) :
    i.opcode = f.opcode := by
  cases i <;> cases h <;> rfl

theorem mode_ne_imm_of_shiftForm {i : Instr} {k : Shift} {f : Form} (h : shiftForm i = some (k, f)) (v : Byte) :
    f.mode ≠ .imm v := by
  cases i <;> cases h <;> nofun

/-- R180: the accumulator form writes `A` and makes no Bus access. -/
theorem exec_shift_acc {i : Instr} {k : Shift} {f : Form} (h : shiftForm i = some (k, f)) (hacc : f.mode = .acc)
    {s : State} (hf : s.fatal = none) :
    let r : Byte := BitVec.ofNat 8 (k.result (s.cpu.p.getLsbD 0) s.cpu.a)
    exec i s = .next (s.setCpu (((s.cpu.shifted (k.out s.cpu.a) r).setA r).setCycles f.base)) := by
  intro r
  rw [exec_shift h, hacc, modifyOp_acc f.base _ hf, Shift.op_eq]

/-- R180: a memory form makes one Bus read and one Bus write at the resolved address. -/
theorem exec_shift_memory {i : Instr} {k : Shift} {f : Form} (h : shiftForm i = some (k, f)) (hacc : f.mode ≠ .acc)
    {s : State} (hf : s.fatal = none) :
    let a := resolve f.mode s
    let v := memRead a.addr a.st
    let r : Byte := BitVec.ofNat 8 (k.result (s.cpu.p.getLsbD 0) v.1)
    exec i s = .next ((memWrite a.addr r v.2).setCpu
      (((s.cpu.setAddrAbs a.addr).shifted (k.out v.1) r).setCycles f.base)) := by
  intro a v r
  rw [exec_shift h, modifyOp_memory f.mode hacc f.base _ hf, operand_memory a hacc (mode_ne_imm_of_shiftForm h)]
  simp only [Shift.op_eq]
  rfl

/-- Settles O21: the next state of each kind of form, read off register by register and flag by flag. -/
theorem shiftResult : Obligations.ShiftResult := by
  intro i k f s hform hf c
  refine ⟨opcode_of_shiftForm hform, ?_, ?_⟩
  · intro hacc r
    refine ⟨_, exec_shift_acc hform hacc hf, rfl, rfl, ⟨fun q hq => ?_, rfl, rfl⟩,
      flagsBecome_shifted s.cpu (k.out s.cpu.a) r, rfl⟩
    cases q
    case a => exact absurd rfl hq
    all_goals rfl
  · intro hacc a v r
    exact ⟨_, exec_shift_memory hform hacc hf, rfl, ⟨fun _ _ => rfl, rfl, rfl⟩,
      flagsBecome_shifted (s.cpu.setAddrAbs a.addr) (k.out v.1) r, rfl⟩

end Sys2Proof.Machine
end

section
/-! SUPPORT. Control flow (44_control_flow.md R190 to R201): the opcode bytes of the jumps and branches, the end of JMP, JSR
and RTS, and a branch target as a number; then the statements. -/

namespace Sys2Proof.Machine

/-! The opcode bytes (30_encoding.md R84). -/

theorem opcode_of_jumpForm {i : Instr} {f : Form} (h : jumpForm i = some f) : i.opcode = f.opcode := by
  cases i <;> cases h <;> rfl

theorem opcode_length_of_branchForm {i : Instr} {f : BranchForm} (h : branchForm i = some f) :
    i.opcode = f.opcode ∧ i.length = 2 := by
  cases i <;> cases h <;> exact ⟨rfl, rfl⟩

/-! Jumps and subroutines (R190 to R192). -/

/-- R190: a jump is its address resolution and the load of `PC`. -/
theorem jmpOp_eq (m : Mode) (base : Nat) {s : State} (hf : s.fatal = none) :
    jmpOp m base s = .next ((resolve m s).st.setCpu
      (((s.cpu.setAddrAbs (resolve m s).addr).setPc (resolve m s).addr).setCycles base)) := by
  rw [jmpOp, finish_setCpu base ((resolve_fatal m s).trans hf), resolve_cpu]

/-- R191: JSR where both pushes fit. -/
theorem exec_jsr_fits (w : Word) {s : State} (hf : s.fatal = none) (h : 2 ≤ s.cpu.sp.toNat) :
    exec (.jsr w) s = .next
      ((s.setRam (storePushes s.ram s.cpu.sp.toNat [hiByte (s.cpu.pc - 1#16), loByte (s.cpu.pc - 1#16)])).setCpu
        ((((s.cpu.setAddrAbs w).setSp (s.cpu.sp - 2#8)).setPc w).setCycles 6)) := by
  change jsrOp (.abs w) 6 s = _
  rw [jsrOp, pushWord_eq _ _ _ ((resolve_fatal _ s).trans hf) (by simpa using h), andThen_running (by simpa using hf)]
  exact finish_running 6 hf

/-- R192: RTS, which always completes. -/
theorem exec_rts {s : State} (hf : s.fatal = none) :
    exec .rts s = .next (s.setCpu (((s.cpu.setSp (s.cpu.sp + 2#8)).setPc ((pullWord s).1 + 1#16)).setCycles 6)) := by
  change execRts s = _
  rw [execRts, pullWord_eq]
  exact finish_setCpu 6 hf _

/-- R192: the return address as a number. -/
theorem pullWord_succ (s : State) :
    (pullWord s).1 + 1#16 = BitVec.ofNat 16 ((s.ram.read (0x100 + (s.cpu.sp.toNat + 1) % 256)).toNat
      + 256 * (s.ram.read (0x100 + (s.cpu.sp.toNat + 2) % 256)).toNat + 1) := by
  apply BitVec.eq_of_toNat_eq
  rw [pullWord_eq, BitVec.toNat_add, mkWord_toNat, BitVec.toNat_add, BitVec.toNat_add, BitVec.toNat_ofNat,
    Nat.add_comm (256 * _)]
  rfl

/-! Branches (R193, 40_addressing_modes.md R106). -/

/-- R106: the target of a branch as a number. -/
theorem toNat_add_sext16 (pc : Word) (d : Byte) :
    ((pc + sext16 d).toNat : Int) = ((pc.toNat : Int) + d.toInt) % 65536 := by
  have hd : (sext16 d).toNat = (d.toInt % 65536).toNat := by
    rw [sext16, BitVec.signExtend, BitVec.toNat_ofInt]
    rfl
  rw [BitVec.toNat_add, hd]
  omega

/-! The statements. -/

/-- Settles O22: both forms are a jump to the resolved address. -/
theorem jumpResult : Obligations.JumpResult := fun _ f s hform hf =>
  ⟨opcode_of_jumpForm hform, (exec_jump hform s).trans (jmpOp_eq f.mode f.base hf)⟩

/-- Settles O23: the pushed and the pulled address as numbers. -/
theorem subroutineResult : Obligations.SubroutineResult := by
  intro s w hf ret stacked
  refine ⟨rfl, rfl, fun hsp => ?_, (exec_rts hf).trans ?_⟩
  · have hret : (s.cpu.pc - 1#16).toNat = ret := by
      rw [BitVec.toNat_sub, Nat.add_comm]
      rfl
    rw [exec_jsr_fits w hf hsp, hiByte_eq, loByte_eq, hret]
  · rw [pullWord_succ]

/-- Settles O24: taken, the branch ends at its target, whose page gives the count; not taken, at the next
instruction. -/
theorem branchResult : Obligations.BranchResult := by
  intro i f s hform hf target taken
  obtain ⟨hop, hlen⟩ := opcode_length_of_branchForm hform
  have hexec := (exec_branch hform s).trans (branch_eq _ f.displacement hf)
  have htarget : ((s.cpu.pc + sext16 f.displacement).toNat : Int) = target := toNat_add_sext16 _ _
  refine ⟨hop, hlen, ?_⟩
  by_cases h : taken
  · rw [beq_iff_eq.2 h] at hexec
    refine ⟨_, hexec, rfl, fun q => by cases q <;> rfl, rfl, rfl, fun _ => htarget, fun hn => absurd h hn, ?_⟩
    have hpage : (page (s.cpu.pc + sext16 f.displacement) != page s.cpu.pc) = true ↔
        ¬ target / 256 = (s.cpu.pc.toNat : Int) / 256 := by
      rw [page_bne_iff, ← htarget]
      omega
    change (if _ then 4 else 3) = _
    rw [if_pos h, if_congr hpage rfl rfl, ite_not]
  · rw [beq_eq_false_iff_ne.2 h] at hexec
    exact ⟨_, hexec, rfl, fun q => by cases q <;> rfl, rfl, rfl, fun ht => absurd ht h, fun _ => rfl, (if_neg h).symm⟩

end Sys2Proof.Machine
end

section
/-! SUPPORT. Flag instructions, NOP, BRK and RTI (45_flags_system.md R210 to R219): the opcode bytes and the bits of the flag
instructions, and BRK as the exception entry after its padding byte; then the statements. -/

namespace Sys2Proof.Machine

/-- R210 to R216: the opcode byte of a flag instruction; its flag is a bit of `P`. -/
theorem opcode_and_bit_lt_of_flagForm {i : Instr} {op : Byte} {k : Nat} {b : Bool}
    (h : flagForm i = some (op, k, b)) : i.opcode = op ∧ k < 8 := by
  cases i <;> cases h <;> exact ⟨rfl, by decide⟩

/-- R218: BRK where its pushes fit: the exception entry from the address after the padding byte. The Bus does not look at
`PC`, so the vector is read as `s` holds it. -/
theorem exec_brk_fits {s : State} (hf : s.fatal = none) (h : 3 ≤ s.cpu.sp.toNat) :
    let ret := s.cpu.pc + 1#16
    exec .brk s = .next
      ((s.setRam (storePushes s.ram s.cpu.sp.toNat [hiByte ret, loByte ret, s.cpu.p ||| 0x30#8])).setCpu
        ((((s.cpu.setSp (s.cpu.sp - 3#8)).setP (s.cpu.p ||| 0x04#8)).setPc
          ((memRead 0xFFFF#16 s).1 ++ (memRead 0xFFFE#16 s).1)).setCycles 7)) := by
  intro ret
  change finish 7 (takeException _ 0xFFFE#16 _ (s.setCpu (s.cpu.setPc ret))) = _
  rw [takeException_eq _ _ _ (s.setCpu (s.cpu.setPc ret)) (by decide) (by decide) hf h, memRead_setCpu, memRead_setCpu]
  exact finish_running 7 hf

/-! The statements. -/

/-- Settles O25: a flag instruction puts one bit of `P`; NOP is the register operation that changes no register. -/
theorem flagResult : Obligations.FlagResult := by
  intro s hf
  refine ⟨fun i op k b hform => ?_, rfl, registerOp_eq 2 (fun c => c) hf⟩
  obtain ⟨hop, hk⟩ := opcode_and_bit_lt_of_flagForm hform
  have hexec := (exec_flag hform s).trans (registerOp_eq 2 _ hf)
  exact ⟨hop, _, hexec, rfl, ⟨fun q _ => by cases q <;> rfl, rfl, rfl⟩, rfl, fun j _ => putBit_getLsbD s.cpu.p b j hk⟩

/-- Settles O28: the exception entry after the padding byte, the pushed address as a number. -/
theorem brkResult : Obligations.BrkResult := by
  intro s hf hsp ret
  have hret : (s.cpu.pc + 1#16).toNat = ret := BitVec.toNat_add _ _
  refine ⟨rfl, (exec_brk_fits hf hsp).trans ?_⟩
  rw [hiByte_eq, loByte_eq, hret]

/-- Settles O29: the return from an exception, whose pulls always complete. -/
theorem rtiResult : Obligations.RtiResult := by
  intro s hf stacked
  refine ⟨rfl, ?_⟩
  change finish 6 (returnFromException s) = _
  rw [returnFromException_eq]
  exact finish_setCpu 6 hf _

end Sys2Proof.Machine
end

section
/-! SUPPORT. The Bus step (46_bus_dma_controller.md R230 to R234, R239): every instruction and slot completes, what the
end of a step does without a request and to `clk`, and the instruction that a fetching step runs; then the
statements. -/

namespace Sys2Proof.Machine

/-! Completion. -/

theorem branch_completes (cond : Bool) (d : Byte) (s : State) : ∃ t, branch cond d s = .next t := by
  cases cond
  · exact ⟨_, rfl⟩
  · exact ⟨_, rfl⟩

/-- Every arm of `exec` ends in a next state; only a branch has two ends. -/
theorem exec_completes (i : Instr) (s : State) : ∃ t, exec i s = .next t := by
  cases i
  case bcc | bcs | beq | bne | bmi | bpl | bvc | bvs => exact branch_completes _ _ s
  all_goals exact ⟨_, rfl⟩

theorem cpuClock_completes (s : State) : ∃ t, cpuClock s = .next t := by
  unfold cpuClock
  split
  · obtain ⟨t, ht⟩ := exec_completes (fetch s).1 (fetch s).2
    exact ⟨countCycle t, by rw [runInstr, ht, bindOut_next]⟩
  · exact ⟨_, rfl⟩

@[simp] theorem dmaSlot_clk (s : State) : (dmaSlot s).clk = s.clk := by
  unfold dmaSlot
  dsimp only
  repeat' split
  all_goals simp

/-- R231: a CPU slot completes and leaves the Bus counter to the end of the step. -/
theorem slot_completes (s : State) : ∃ t, slot s = .next t ∧ t.clk = s.clk := by
  unfold slot
  split
  · exact ⟨_, rfl, dmaSlot_clk s⟩
  · obtain ⟨t, ht⟩ := cpuClock_completes s
    obtain ⟨hclk, -⟩ := (clkParams_cpuClosed s.clk s.params).cpuClock ⟨rfl, rfl⟩ t ht
    exact ⟨t, ht, hclk⟩

/-! The end of a step (R233, R234). -/

theorem interruptEntry_clk (o : Origin) (v : Word) (s : State) (hv : 0x6000 ≤ v.toNat) (hv' : v.toNat < 0xFFFF) :
    (interruptEntry o v s).clk = s.clk :=
  interruptEntry_keeps (fun s => s.clk) (fun _ _ => rfl) (fun _ _ => rfl) (fun _ _ => rfl) o v s hv hv'

@[simp] theorem routeNmi_clk (s : State) : (routeNmi s).clk = s.clk :=
  applyIf_proj (fun s : State => s.clk) _ _ (interruptEntry_clk _ _ _ (by decide) (by decide))

@[simp] theorem cpuIrq_clk (s : State) : (cpuIrq s).clk = s.clk := by
  unfold cpuIrq
  split
  · rfl
  · exact interruptEntry_clk _ _ _ (by decide) (by decide)

@[simp] theorem routeIrq_clk (held : Bool) (s : State) : (routeIrq held s).clk = s.clk :=
  applyIf_proj (fun s : State => s.clk) _ _ (applyIf_proj (fun s : State => s.clk) _ _ (cpuIrq_clk _))

/-- R234, R423: `clk` counts from `n`, unless a fatal condition stands. -/
def countedFrom (n : Nat) (t : State) : Prop := (t.fatal = none → t.clk = n + 1) ∧ (t.fatal ≠ none → t.clk = n)

theorem countedFrom_andThen {n : Nat} {s : State} {f : State → State} (hclk : s.clk = n)
    (hf : s.fatal = none → countedFrom n (f s)) : countedFrom n (andThen s f) := by
  cases e : s.fatal with
  | none => exact andThen_running e f ▸ hf e
  | some x =>
    rw [andThen_stopped e]
    exact ⟨fun h => absurd (e.symm.trans h) nofun, fun _ => hclk⟩

theorem countedFrom_endStep (held : Bool) (s : State) : countedFrom s.clk (endStep held s) := by
  refine countedFrom_andThen rfl fun _ => ?_
  refine countedFrom_andThen (by simp) fun _ => ?_
  refine countedFrom_andThen (by simp) fun hf => ?_
  exact ⟨fun _ => by simp, fun h => absurd hf h⟩

/-- A request that is not there is not routed. -/
theorem routeNmi_none {s : State} (h : s.ppu.nmi = false) : routeNmi s = s := by simp [routeNmi, applyIf, h]

/-- R234: the end of a step without a request. -/
theorem endStep_quiet (held : Bool) {s : State} (hf : s.fatal = none) (hq : s.quiet) :
    endStep held s = s.setClk (s.clk + 1) := by
  obtain ⟨hnmi, hirq⟩ := hq
  unfold endStep
  rw [andThen_running hf, routeNmi_none hnmi, andThen_running hf, routeIrq_none hirq, andThen_running hf]

/-! The fetching step (R232). -/

theorem countCycle_running {s : State} (h : s.fatal = none) :
    countCycle s = s.setCpu (s.cpu.setCycles (s.cpu.cycles - 1)) := andThen_running h _

@[simp] theorem countCycle_opcode (s : State) : (countCycle s).cpu.opcode = s.cpu.opcode :=
  andThen_keeps (fun t => t.cpu.opcode = s.cpu.opcode) rfl fun _ => rfl

theorem fetchBytes_opcode (n : Nat) (s : State) : (fetchBytes n s).2.cpu.opcode = s.cpu.opcode := by
  induction n generalizing s with
  | zero => rfl
  | succ n ih => exact (ih _).trans (by simp [fetchByte])

/-- R80: the fetched bytes are an opcode byte with as many operand bytes as it needs, so they decode, and nothing is
left. -/
theorem decode_fetchInstrBytes (s : State) : decode (fetchInstrBytes s).1 = .ok ((fetch s).1, []) := by
  have h := decode_cons_append (fetchBytes_length (opLength (fetchByte s).1 - 1)
    ((fetchByte s).2.setCpu ((fetchByte s).2.cpu.setOpcode (fetchByte s).1))) []
  rwa [List.append_nil] at h

/-- R232: the fetch latches the opcode of the instruction that it gives. -/
theorem fetch_opcode (s : State) : (fetch s).2.cpu.opcode = (fetch s).1.opcode :=
  (fetchBytes_opcode _ _).trans (opcode_ofBytes _ _ _).symm

theorem wellFormed_fetch (s : State) : (fetch s).1.wellFormed = true := wellFormed_ofBytes _ _ _

/-- R84: RTI is the one instruction with its opcode byte. -/
theorem opcode_eq_rti_iff {i : Instr} (h : i.wellFormed = true) : i.opcode = 0x40#8 ↔ i = .rti := by
  refine ⟨fun hop => ?_, fun hi => hi ▸ rfl⟩
  have hi := ofOperands_opcode_operandBytes h
  rw [hop] at hi
  exact hi.symm

/-- R231, R232: a step that fetches. -/
theorem step_fetches {s t : State} (h : s.fetches) (ht : exec (fetch (ppuClock s)).1 (fetch (ppuClock s)).2 = .next t) :
    step s = .next (endStep (irqHeld (ppuClock s) (countCycle t)) (countCycle t)) := by
  obtain ⟨⟨hf, hc⟩, hq, hclk, hdma, hcycles⟩ := h
  rw [step_running hq hc hf, if_pos hclk]
  simp [slot, cpuClock, runInstr, hdma, hcycles, ht]

/-- 45_flags_system.md R219: in a step that fetches, the IRQ is held off only by an RTI. -/
theorem irqHeld_fetches {s t : State} (h : s.fetches)
    (ht : exec (fetch (ppuClock s)).1 (fetch (ppuClock s)).2 = .next t) :
    irqHeld (ppuClock s) (countCycle t) =
      (s.params.rtiDelaysIrq && decide ((fetch (ppuClock s)).1 = .rti) && s.cpu.p.getLsbD 2) := by
  obtain ⟨-, -, hclk, hdma, hcycles⟩ := h
  obtain ⟨-, -, -, -, hop, -⟩ := registerFrame _ _ _ ht
  have hrti : (t.cpu.opcode == 0x40#8) = decide ((fetch (ppuClock s)).1 = .rti) := by
    rw [hop, fetch_opcode, beq_eq_decide, decide_eq_decide]
    exact opcode_eq_rti_iff (wellFormed_fetch _)
  simp [irqHeld, State.atFetch, hclk, hdma, hcycles, hrti, interruptBit]

/-! The statements. -/

/-- Settles O5: the step is the fetch, the instruction, the count of its first cycle and the end of the step. -/
theorem stepRunsInstr : Obligations.StepRunsInstr := by
  intro s h
  refine ⟨(fetch (ppuClock s)).1, _, decode_fetchInstrBytes _, rfl, fun t ht => ?_⟩
  have hstep := step_fetches h ht
  rw [irqHeld_fetches h ht] at hstep
  refine ⟨hstep, fun hf hnmi hirq => hstep.trans ?_⟩
  rw [countCycle_running hf]
  exact congrArg _ (endStep_quiet (s := t.setCpu _) _ hf ⟨hnmi, hirq⟩)

/-- Settles O7: outside a fetch no IRQ is held off, and the slot is the one that the clause names. -/
theorem stepWithoutFetch : Obligations.StepWithoutFetch := by
  rintro s ⟨hf, hc⟩ hq
  have hheld (t : State) (h : s.atFetch = false) : irqHeld (ppuClock s) t = false :=
    irqHeld_of_atFetch (by simpa [State.atFetch] using h)
  rw [step_running hq hc hf]
  refine ⟨fun hclk => ?_, fun hclk hdma => ?_, fun hclk hdma hcycles => ?_⟩
  · rw [if_neg hclk, bindOut_next, hheld _ (by simp [State.atFetch, hclk])]
  · rw [if_pos hclk, slot, ppuClock_dma, if_pos hdma, bindOut_next, hheld _ (by simp [State.atFetch, hdma])]
  · have hslot : slot (ppuClock s) = .next (countCycle (ppuClock s)) := by simp [slot, cpuClock, hdma, hcycles]
    rw [if_pos hclk, hslot, bindOut_next, hheld _ (by simp [State.atFetch, hcycles]),
      countCycle_running (by simpa using hf), ppuClock_cpu]

/-- Settles O8: what stands before the end of a step is a completed slot or none, and the end counts the step. -/
theorem stepCompletes : Obligations.StepCompletes := by
  intro s hc hq
  cases hf : s.fatal with
  | some x =>
    exact ⟨s, step_stopped hq hc (by simp [hf]), fun h => absurd (hf.symm.trans h) nofun, fun _ => rfl, fun _ => rfl⟩
  | none =>
    obtain ⟨u, hu, hclk⟩ : ∃ u, (if s.clk % 3 = 0 then slot (ppuClock s) else .next (ppuClock s)) = .next u ∧
        u.clk = s.clk := by
      split
      · simpa using slot_completes (ppuClock s)
      · exact ⟨_, rfl, ppuClock_clk s⟩
    obtain ⟨hrun, hstop⟩ := countedFrom_endStep (irqHeld (ppuClock s) u) u
    rw [hclk] at hrun hstop
    refine ⟨_, ?_, hrun, hstop, fun h => absurd rfl h⟩
    rw [step_running hq hc hf, hu, bindOut_next]

end Sys2Proof.Machine
end

section
/-! SUPPORT. The fetch from memory (46_bus_dma_controller.md R232, 40_addressing_modes.md R100): the bytes that stand in
memory from an address on, and that a fetch of as many reads just these; then the statement. -/

namespace Sys2Proof.Machine

theorem isMemory_of_standsMemory {a : Word} (h : standsMemory a = true) : isMemory a := by
  simpa [standsMemory, isMemory] using h

/-- The bytes stand in memory from `a` on, addresses modulo 65536. -/
def bytesAt (s : State) : Word → List Byte → Prop
  | _, [] => True
  | a, b :: bs => isMemory a ∧ (memRead a s).1 = b ∧ bytesAt s (a + 1#16) bs

/-- Memory does not depend on the CPU record. -/
theorem bytesAt_setCpu (s : State) (c : Cpu) (a : Word) (bs : List Byte) :
    bytesAt (s.setCpu c) a bs ↔ bytesAt s a bs := by
  induction bs generalizing a with
  | nil => rfl
  | cons b bs ih => simp only [bytesAt, memRead_setCpu, ih]

theorem bytesAt_of_append {s : State} {a : Word} {bs cs : List Byte} (h : bytesAt s a (bs ++ cs)) : bytesAt s a bs := by
  induction bs generalizing a with
  | nil => trivial
  | cons b bs ih =>
    obtain ⟨hmem, hread, hrest⟩ := h
    exact ⟨hmem, hread, ih hrest⟩

/-- A fetch of bytes that stand in memory reads them and advances `PC` past them. -/
theorem fetchBytes_of_bytesAt {s : State} {bs : List Byte} (h : bytesAt s s.cpu.pc bs) :
    fetchBytes bs.length s = (bs, s.setCpu (s.cpu.setPc (s.cpu.pc + BitVec.ofNat 16 bs.length))) := by
  induction bs generalizing s with
  | nil =>
    rw [List.length_nil, BitVec.add_zero]
    rfl
  | cons b bs ih =>
    obtain ⟨hmem, hread, hrest⟩ := h
    have hpc : s.cpu.pc + 1#16 + BitVec.ofNat 16 bs.length = s.cpu.pc + BitVec.ofNat 16 (bs.length + 1) := by
      rw [Nat.add_comm, BitVec.ofNat_add, BitVec.add_assoc]
    rw [List.length_cons, fetchBytes, fetchByte_memory hmem, hread,
      ih (s := s.setCpu (s.cpu.setPc (s.cpu.pc + 1#16))) ((bytesAt_setCpu _ _ _ _).mpr hrest), ← hpc]
    rfl

/-- R232: the fetch of an instruction whose bytes stand in memory. -/
theorem fetchInstrBytes_of_bytesAt {s : State} {i : Instr} (hi : i.wellFormed = true)
    (h : bytesAt s s.cpu.pc (encode i)) :
    fetchInstrBytes s =
      (encode i, s.setCpu ((s.cpu.setOpcode i.opcode).setPc (s.cpu.pc + BitVec.ofNat 16 i.length))) := by
  obtain ⟨hmem, hop, hoperands⟩ := h
  have hlen : opLength i.opcode - 1 = i.operandBytes.length := by
    rw [opLength_opcode hi, Instr.length, Nat.add_sub_cancel_left]
  have hfetch := fetchBytes_of_bytesAt (s := s.setCpu ((s.cpu.setPc (s.cpu.pc + 1#16)).setOpcode i.opcode))
    ((bytesAt_setCpu _ _ _ _).mpr hoperands)
  have hpc : s.cpu.pc + 1#16 + BitVec.ofNat 16 i.operandBytes.length = s.cpu.pc + BitVec.ofNat 16 i.length := by
    rw [Instr.length, BitVec.ofNat_add, BitVec.add_assoc]
  unfold fetchInstrBytes
  rw [fetchByte_memory hmem, hop]
  dsimp only [State.setCpu_setCpu, State.setCpu_cpu]
  rw [hlen, hfetch, ← hpc]
  rfl

/-- Settles O6: the bytes of the decoded instruction are the first of the three. -/
theorem fetchFromMemory : Obligations.FetchFromMemory := by
  intro s i rest h0 h1 h2 hdec
  obtain ⟨hi, hbytes⟩ := encodeDecode _ _ _ hdec
  have h2' : s.cpu.pc + 1#16 + 1#16 = s.cpu.pc + 2#16 := BitVec.add_assoc _ _ _
  refine fetchInstrBytes_of_bytesAt hi (bytesAt_of_append (cs := rest) ?_)
  rw [hbytes]
  refine ⟨isMemory_of_standsMemory h0, rfl, isMemory_of_standsMemory h1, rfl, ?_⟩
  rw [h2']
  exact ⟨isMemory_of_standsMemory h2, rfl, trivial⟩

end Sys2Proof.Machine
end

section
/-! SUPPORT. The controllers (46_bus_dma_controller.md R242 to R244): the ports' two addresses, and the latch after a
number of reads bit by bit; then the statement. -/

namespace Sys2Proof.Machine

/-! The two ports. -/

theorem memRead_pad1 (s : State) : memRead 0x4016#16 s = ((pad1Read s.pads).1, s.setPads (pad1Read s.pads).2) := rfl

theorem memRead_pad2 (s : State) : memRead 0x4017#16 s = ((pad2Read s.pads).1, s.setPads (pad2Read s.pads).2) := rfl

theorem memWrite_strobe (v : Byte) (s : State) : memWrite 0x4016#16 v s = s.setPads (strobeWrite s.pads v) := rfl

/-- R242: a 1 raises the strobe. -/
theorem strobeWrite_raise (c : Pads) {v : Byte} (h : v.getLsbD 0 = true) :
    strobeWrite c v = { c with strobe := true } := by
  rw [strobeWrite, h, Bool.not_true, Bool.and_false]
  rfl

/-- R242: a 0 under the raised strobe latches both masks. -/
theorem strobeWrite_latch {c : Pads} {v : Byte} (hc : c.strobe = true) (h : v.getLsbD 0 = false) :
    strobeWrite c v = { c with shift1 := c.buttons1, shift2 := c.buttons2, strobe := false } := by
  rw [strobeWrite, h, hc]
  rfl

/-! The latch (R243). -/

/-- The byte of a read is 0x40 with bit 0 of what the strobe selects. -/
theorem padByte_toNat (strobe : Bool) (buttons shift : Byte) :
    (padByte strobe buttons shift).toNat = 0x40 + ((if strobe then buttons else shift).getLsbD 0).toNat := by
  have h : ∀ v : Byte, (0x40#8 ||| (v &&& 0x01#8)).toNat = 0x40 + (v.getLsbD 0).toNat := by decide
  exact h _

/-- After `n` reads a bit of the latch is the one `n` places up, or one of the ones shifted in. -/
theorem padShift_iterate_getLsbD (m : Byte) (n : Nat) {k : Nat} (hk : k < 8) :
    ((padShift false)^[n] m).getLsbD k = if n + k < 8 then m.getLsbD (n + k) else true := by
  induction n generalizing k with
  | zero => simp [hk]
  | succ n ih =>
    have h80 : (0x80#8).getLsbD k = decide (k = 7) := by
      revert k
      decide
    rw [Function.iterate_succ_apply']
    change (((padShift false)^[n] m >>> 1) ||| 0x80#8).getLsbD k = _
    rw [BitVec.getLsbD_or, BitVec.getLsbD_ushiftRight, h80]
    by_cases h7 : k = 7
    · simp [h7]
    · rw [ih (by omega), show n + (1 + k) = n + 1 + k by omega, decide_eq_false h7, Bool.or_false]

/-- R243: the `n`-th read of a controller, from the latched mask. -/
theorem padByte_iterate_toNat (m : Byte) (n : Nat) :
    (padByte false m ((padShift false)^[n] m)).toNat = if n < 8 then 0x40 + (m.getLsbD n).toNat else 0x41 := by
  rw [padByte_toNat]
  change 0x40 + (((padShift false)^[n] m).getLsbD 0).toNat = _
  rw [padShift_iterate_getLsbD m n (by decide), Nat.add_zero]
  split
  · rfl
  · rfl

/-! Reads in turn. -/

theorem iterate_memRead_pad1 {s : State} (h : s.pads.strobe = false) (n : Nat) :
    ((fun t : State => (memRead 0x4016#16 t).2)^[n] s).pads =
      { s.pads with shift1 := (padShift false)^[n] s.pads.shift1 } := by
  induction n with
  | zero => rfl
  | succ n ih =>
    rw [Function.iterate_succ_apply', Function.iterate_succ_apply', memRead_pad1, State.setPads_pads, ih, pad1Read]
    simp only [h]

theorem iterate_memRead_pad2 {s : State} (h : s.pads.strobe = false) (n : Nat) :
    ((fun t : State => (memRead 0x4017#16 t).2)^[n] s).pads =
      { s.pads with shift2 := (padShift false)^[n] s.pads.shift2 } := by
  induction n with
  | zero => rfl
  | succ n ih =>
    rw [Function.iterate_succ_apply', Function.iterate_succ_apply', memRead_pad2, State.setPads_pads, ih, pad2Read]
    simp only [h]

/-- Settles O47: the two writes latch the masks, and each read shifts its latch by one place. -/
theorem controllerReads : Obligations.ControllerReads := by
  intro s u v hu hv held s0 reads
  have hheld : held = s.setPads { s.pads with strobe := true } :=
    (memWrite_strobe u s).trans (congrArg s.setPads (strobeWrite_raise s.pads hu))
  have hs0 : s0.pads = ⟨false, s.pads.buttons1, s.pads.buttons2, s.pads.buttons1, s.pads.buttons2⟩ := by
    change (memWrite 0x4016#16 v held).pads = _
    rw [memWrite_strobe, hheld]
    exact strobeWrite_latch rfl hv
  have hstrobe : s0.pads.strobe = false := congrArg Pads.strobe hs0
  refine ⟨fun n => ?_, fun n => ?_, ?_, ?_, ?_, ?_⟩
  · change (memRead 0x4016#16 ((fun t : State => (memRead 0x4016#16 t).2)^[n] s0)).1.toNat = _
    rw [memRead_pad1, iterate_memRead_pad1 hstrobe, hs0]
    exact padByte_iterate_toNat s.pads.buttons1 n
  · change (memRead 0x4017#16 ((fun t : State => (memRead 0x4017#16 t).2)^[n] s0)).1.toNat = _
    rw [memRead_pad2, iterate_memRead_pad2 hstrobe, hs0]
    exact padByte_iterate_toNat s.pads.buttons2 n
  · rw [hheld]
    exact padByte_toNat true s.pads.buttons1 _
  · rw [hheld]
    rfl
  · rw [hheld]
    exact padByte_toNat true s.pads.buttons2 _
  · rw [hheld]
    rfl

end Sys2Proof.Machine
end

section
/-! SUPPORT. The transfer to OAM (46_bus_dma_controller.md R236 to R238): the block after each part of a transfer as one
state, which differs from the block before it in the DMA record, OAM and `clk`; then the statement. -/

namespace Sys2Proof.Machine

/-! One slot. -/

/-- A CPU slot of a transfer, and the step to the next one. -/
def transferSlot (t : State) : State := (dmaSlot t).setClk (t.clk + 3)

/-- The block `s` in a transfer: another DMA record, another OAM, another count. -/
def transferring (s : State) (d : Dma) (oam : Memory) (n : Nat) : State :=
  ((s.setDma d).setPpu { s.ppu with oam := oam }).setClk n

@[simp] theorem transferring_dma (s : State) (d : Dma) (oam : Memory) (n : Nat) :
    (transferring s d oam n).dma = d := rfl

@[simp] theorem transferring_clk (s : State) (d : Dma) (oam : Memory) (n : Nat) :
    (transferring s d oam n).clk = n := rfl

/-- Memory is the same in a transfer. -/
theorem memRead_transferring {s : State} {a : Word} (h : isMemory a) (d : Dma) (oam : Memory) (n : Nat) :
    memRead a (transferring s d oam n) = ((memRead a s).1, transferring s d oam n) := by
  rcases h with h | h
  · rw [memRead_lowRam _ _ h, memRead_lowRam _ _ h]
    rfl
  · rw [memRead_cartridge _ _ h, memRead_cartridge _ _ h]
    rfl

/-- R237: a dummy slot; an odd one ends the synchronisation. -/
theorem transferSlot_dummy {s : State} {d : Dma} (hd : d.dummy = true) (oam : Memory) (n : Nat) :
    transferSlot (transferring s d oam n) =
      transferring s (if n % 2 = 1 then { d with dummy := false } else d) oam (n + 3) := by
  rw [transferSlot, dmaSlot, transferring_dma, if_pos hd, transferring_clk]
  split
  · rfl
  · rfl

/-- R237: an even slot reads the next byte. -/
theorem transferSlot_read {s : State} {d : Dma} {n : Nat} (hd : d.dummy = false) (hn : n % 2 = 0)
    (hmem : isMemory (mkWord d.page d.offset)) (oam : Memory) :
    transferSlot (transferring s d oam n) =
      transferring s { d with data := (memRead (mkWord d.page d.offset) s).1 } oam (n + 3) := by
  simp only [transferSlot, dmaSlot, transferring_dma, transferring_clk, hd, hn, memRead_transferring hmem,
    Bool.false_eq_true, if_false, if_true]
  rfl

/-- R237, R238: an odd slot stores it; after the last one the transfer has ended. -/
theorem transferSlot_write {s : State} {d : Dma} {n : Nat} (hd : d.dummy = false) (hn : n % 2 = 1) (oam : Memory) :
    transferSlot (transferring s d oam n) =
      transferring s { d with
        offset := d.offset + 1#8
        active := d.offset + 1#8 != 0x00#8
        dummy := d.offset + 1#8 == 0x00#8 } (oam.write d.offset.toNat d.data) (n + 3) := by
  rw [transferSlot, dmaSlot, transferring_dma, if_neg (ne_true_of_eq_false hd), transferring_clk, if_neg (by omega)]
  rfl

/-! The bytes of a page. -/

/-- Byte `k` of a page. -/
def pageByte (s : State) (page : Byte) (k : Nat) : Byte := (memRead (page ++ BitVec.ofNat 8 k) s).1

/-- The byte that the record holds after `k` bytes. -/
def lastRead (s : State) (page : Byte) : Nat → Byte
  | 0 => s.dma.data
  | k + 1 => pageByte s page k

/-- OAM after the first `k` bytes of a page. -/
def copied (s : State) (page : Byte) : Nat → Memory
  | 0 => s.ppu.oam
  | k + 1 => (copied s page k).write k (pageByte s page k)

theorem copied_wf {s : State} (h : s.ppu.oam.wf = true) (page : Byte) (k : Nat) : (copied s page k).wf = true := by
  induction k with
  | zero => exact h
  | succ k ih => exact Memory.wf_write ih k _

theorem copied_read {s : State} (h : s.ppu.oam.wf = true) (page : Byte) {j k : Nat} (hj : j < k) :
    (copied s page k).read j = pageByte s page j := by
  induction k with
  | zero => omega
  | succ k ih =>
    rw [copied, Memory.read_write (copied_wf h page k)]
    split
    · next e => rw [e]
    · exact ih (by omega)

/-! The transfer. -/

/-- The block after `k` bytes of a page, the first of them read at count `n`; after the last of them the transfer has
ended. -/
def transferred (s : State) (page : Byte) (n k : Nat) : State :=
  transferring s ⟨page, BitVec.ofNat 8 k, lastRead s page k, k == 256, k != 256⟩ (copied s page k) (n + 6 * k)

/-- The pages that lie in memory. -/
theorem isMemory_of_page {page : Byte} (hp : page.toNat < 0x20 ∨ 0x60 ≤ page.toNat) (offset : Byte) :
    isMemory (mkWord page offset) := by
  have h := offset.isLt
  unfold isMemory
  rw [mkWord_toNat]
  omega

section

variable {s : State} {page : Byte} (hp : page.toNat < 0x20 ∨ 0x60 ≤ page.toNat) {n : Nat} (hn : n % 2 = 0)
include hp hn

/-- R237: the first slot of a byte. -/
theorem transferSlot_transferred {k : Nat} (hk : k < 256) :
    transferSlot (transferred s page n k) =
      transferring s ⟨page, BitVec.ofNat 8 k, pageByte s page k, false, true⟩ (copied s page k) (n + 6 * k + 3) := by
  have hmore : (k == 256) = false := beq_false_of_ne (by omega)
  rw [transferred, bne, hmore]
  exact transferSlot_read (d := ⟨page, BitVec.ofNat 8 k, lastRead s page k, false, true⟩) rfl (by omega)
    (isMemory_of_page hp _) _

/-- R237, R238: the two slots of a byte. -/
theorem transferSlot_transferSlot_transferred {k : Nat} (hk : k < 256) :
    transferSlot (transferSlot (transferred s page n k)) = transferred s page n (k + 1) := by
  have hoffset : BitVec.ofNat 8 k + 1#8 = BitVec.ofNat 8 (k + 1) := (BitVec.ofNat_add k 1).symm
  have hlast : (BitVec.ofNat 8 (k + 1) == 0x00#8) = (k + 1 == 256) := by
    rw [beq_eq_beq, ← BitVec.toNat_inj, BitVec.toNat_ofNat, BitVec.toNat_ofNat]
    omega
  have hindex : (BitVec.ofNat 8 k).toNat = k := by
    rw [BitVec.toNat_ofNat]
    omega
  rw [transferSlot_transferred hp hn hk, transferSlot_write rfl (by omega)]
  dsimp only
  rw [hoffset, bne, hlast, hindex]
  rfl

theorem iterate_transferSlot_transferred {k : Nat} (hk : k ≤ 256) :
    transferSlot^[2 * k] (transferred s page n 0) = transferred s page n k := by
  induction k with
  | zero => rfl
  | succ k ih =>
    rw [Nat.mul_succ, Function.iterate_succ_apply', Function.iterate_succ_apply', ih (by omega)]
    exact transferSlot_transferSlot_transferred hp hn (by omega)

/-- R237: a transfer is active in each of its 512 slots. -/
theorem iterate_transferSlot_active {j : Nat} (hj : j < 512) :
    (transferSlot^[j] (transferred s page n 0)).dma.active = true := by
  have hk : j / 2 < 256 := by omega
  rcases Nat.mod_two_eq_zero_or_one j with h | h
  · rw [show j = 2 * (j / 2) by omega, iterate_transferSlot_transferred hp hn (by omega)]
    exact bne_iff_ne.mpr (by omega)
  · rw [show j = 2 * (j / 2) + 1 by omega, Function.iterate_succ_apply',
      iterate_transferSlot_transferred hp hn (by omega), transferSlot_transferred hp hn hk]
    rfl

end

/-! The synchronisation (R236, R237). -/

/-- How many dummy slots there are before the first byte. -/
def dummySlots (s : State) : Nat := if s.clk % 2 = 1 then 1 else 2

/-- R236: the write to 0x4014. -/
theorem memWrite_dma {s : State} (hd : s.dma.dummy = true) (page : Byte) :
    memWrite 0x4014#16 page s = transferring s ⟨page, 0x00#8, s.dma.data, true, true⟩ s.ppu.oam s.clk := by
  change transferring s (startDma s.dma page) s.ppu.oam s.clk = _
  rw [startDma, hd]

/-- The dummy slots end at an even count. -/
theorem iterate_transferSlot_dummySlots {s : State} (hd : s.dma.dummy = true) (page : Byte) :
    transferSlot^[dummySlots s] (memWrite 0x4014#16 page s) =
      transferred s page (s.clk + 3 * dummySlots s) 0 := by
  rw [memWrite_dma hd, dummySlots]
  split
  · next h =>
    rw [Function.iterate_one, transferSlot_dummy rfl, if_pos h]
    rfl
  · next h =>
    change transferSlot (transferSlot _) = _
    rw [transferSlot_dummy rfl, if_neg h, transferSlot_dummy rfl, if_pos (by omega)]
    rfl

theorem iterate_transferSlot_dummySlots_active {s : State} (hd : s.dma.dummy = true) (page : Byte) {j : Nat}
    (hj : j < dummySlots s) : (transferSlot^[j] (memWrite 0x4014#16 page s)).dma.active = true := by
  rw [memWrite_dma hd]
  have h2 : dummySlots s ≤ 2 := by
    unfold dummySlots
    split <;> omega
  obtain rfl | rfl : j = 0 ∨ j = 1 := by omega
  · rfl
  · rw [Function.iterate_one, transferSlot_dummy rfl]
    split <;> rfl

/-- Settles O48: the dummy slots, then two slots for each of the 256 bytes. -/
theorem dmaTransfer : Obligations.DmaTransfer := by
  intro s page hs hd hp s0 run last
  obtain ⟨-, -, -, -, ⟨hoam, -⟩, -⟩ := hs
  have hrun (j : Nat) : run j = transferSlot^[j] s0 := rfl
  have hlast : last = 2 * 256 + dummySlots s := by
    change (if s.clk % 2 = 1 then 513 else 514) = _
    unfold dummySlots
    split <;> rfl
  have heven : (s.clk + 3 * dummySlots s) % 2 = 0 := by
    unfold dummySlots
    split <;> omega
  have hsync := iterate_transferSlot_dummySlots hd page
  have hend : run last = transferred s page (s.clk + 3 * dummySlots s) 256 := by
    rw [hrun, hlast, Function.iterate_add_apply, hsync]
    exact iterate_transferSlot_transferred hp heven (Nat.le_refl 256)
  rw [hend]
  refine ⟨fun j hj => ?_, rfl, rfl, fun k hk => copied_read hoam page hk, rfl, rfl⟩
  rw [hrun]
  by_cases hdummy : j < dummySlots s
  · exact iterate_transferSlot_dummySlots_active hd page hdummy
  · rw [show j = j - dummySlots s + dummySlots s by omega, Function.iterate_add_apply, hsync]
    exact iterate_transferSlot_active hp heven (by omega)

end Sys2Proof.Machine
end

section
/-! SUPPORT. Interrupt routing at the end of a step (46_bus_dma_controller.md R233, 60_exceptions.md R423, R427 to
R431): an interrupt entry whose pushes fit and one that meets the stack boundary, and the two routings by their cases;
then the statement. -/

namespace Sys2Proof.Machine

/-! Interrupt entry (R429). -/

/-- R429: an interrupt entry whose pushes fit. -/
theorem interruptEntry_fits (o : Origin) {v : Word} {s : State} (hv : 0x6000 ≤ v.toNat) (hv' : v.toNat < 0xFFFF)
    (hf : s.fatal = none) (h : 3 ≤ s.cpu.sp.toNat) :
    interruptEntry o v s =
      (s.setRam (storePushes s.ram s.cpu.sp.toNat
        [hiByte s.cpu.pc, loByte s.cpu.pc, statusCanonical s.cpu.p])).setCpu
        ((((s.cpu.setSp (s.cpu.sp - 3#8)).setP (s.cpu.p ||| 0x04#8)).setPc
          ((memRead (v + 1#16) s).1 ++ (memRead v s).1)).setCycles 7) := by
  rw [interruptEntry, takeException_eq o v _ s hv hv' hf h, andThen_running (by simpa using hf)]
  rfl

/-- R422, R423: an interrupt entry that meets the stack boundary. -/
theorem interruptEntry_boundary (o : Origin) (v : Word) {s : State} (hf : s.fatal = none) (h : s.cpu.sp.toNat < 3) :
    (interruptEntry o v s).fatal = some (.stackBoundary o) := by
  rw [interruptEntry, takeException_boundary o v _ s hf h]
  rfl

theorem interruptEntry_fits_fatal (o : Origin) {v : Word} {s : State} (hv : 0x6000 ≤ v.toNat) (hv' : v.toNat < 0xFFFF)
    (hf : s.fatal = none) (h : 3 ≤ s.cpu.sp.toNat) : (interruptEntry o v s).fatal = none := by
  rw [interruptEntry_fits o hv hv' hf h]
  exact hf

/-- R429: an entry sets interrupt-disable. -/
theorem interruptEntry_fits_disables (o : Origin) {v : Word} {s : State} (hv : 0x6000 ≤ v.toNat)
    (hv' : v.toNat < 0xFFFF) (hf : s.fatal = none) (h : 3 ≤ s.cpu.sp.toNat) :
    (interruptEntry o v s).cpu.p.getLsbD 2 = true := by
  rw [interruptEntry_fits o hv hv' hf h]
  change (s.cpu.p ||| 0x04#8).getLsbD 2 = true
  rw [BitVec.getLsbD_or]
  exact Bool.or_true _

theorem interruptEntry_mapper (o : Origin) (v : Word) (s : State) (hv : 0x6000 ≤ v.toNat) (hv' : v.toNat < 0xFFFF) :
    (interruptEntry o v s).mapper = s.mapper :=
  interruptEntry_keeps (fun s => s.mapper) (fun _ _ => rfl) (fun _ _ => rfl) (fun _ _ => rfl) o v s hv hv'

/-! Withdrawing the requests (R233, 49_mappers_cartridge.md R395). -/

/-- The state with the PPU's request withdrawn. -/
def withdrawNmi (s : State) : State := s.setPpu { s.ppu with nmi := false }

/-- The state with the mapper's request withdrawn. -/
def withdrawIrq (s : State) : State := s.setMapper s.mapper.clearInterrupt

theorem withdrawNmi_of_none {s : State} (h : s.ppu.nmi = false) : withdrawNmi s = s := by
  rw [withdrawNmi, ← h]
  rfl

theorem Mapper.clearInterrupt_of_not_pending {m : Mapper} (h : m.pending = false) : m.clearInterrupt = m := by
  cases m
  case mmc3 r =>
    cases r
    cases h
    rfl
  all_goals rfl

theorem withdrawIrq_of_none {s : State} (h : s.mapper.pending = false) : withdrawIrq s = s := by
  rw [withdrawIrq, Mapper.clearInterrupt_of_not_pending h]
  rfl

/-- R370: the request is no part of the program mapping. -/
theorem cartRead_withdrawIrq (s : State) (a : Nat) : cartRead (withdrawIrq s) a = cartRead s a := by
  unfold cartRead prgOffset withdrawIrq
  rw [State.setMapper_mapper]
  cases s.mapper <;> rfl

/-- The mapper's request withdrawn before an entry or after it. -/
theorem interruptEntry_withdrawIrq (o : Origin) {v : Word} {s : State} (hv : 0x6000 ≤ v.toNat) (hv' : v.toNat < 0xFFFF)
    (hf : s.fatal = none) (h : 3 ≤ s.cpu.sp.toNat) :
    interruptEntry o v (withdrawIrq s) = withdrawIrq (interruptEntry o v s) := by
  have hnext : (v + 1#16).toNat = v.toNat + 1 := by
    rw [BitVec.toNat_add]
    exact Nat.mod_eq_of_lt (Nat.add_lt_add_right hv' 1)
  rw [interruptEntry_fits o (s := withdrawIrq s) hv hv' hf h, interruptEntry_fits o hv hv' hf h]
  simp only [memRead_cartridge v _ hv, memRead_cartridge (v + 1#16) _ (show _ ≤ _ by omega), cartRead_withdrawIrq]
  rfl

/-! The two routings (R427, R428, R431). -/

theorem routeNmi_requested {s : State} (h : s.ppu.nmi = true) :
    routeNmi s = interruptEntry .nmi 0xFFFA#16 (withdrawNmi s) := if_pos h

/-- R427: a request that is held off or masked is withdrawn and lost; where there is none, nothing happens. -/
theorem routeIrq_lost {held : Bool} {s : State}
    (h : s.mapper.pending = true → s.cpu.p.getLsbD 2 = true ∨ held = true) : routeIrq held s = withdrawIrq s := by
  cases hp : s.mapper.pending with
  | false => rw [routeIrq_none hp, withdrawIrq_of_none hp]
  | true =>
    rw [routeIrq, applyIf, if_pos hp]
    rcases h hp with hi | rfl
    · cases held
      · exact if_pos hi
      · rfl
    · rfl

/-- R427: a request that is taken. -/
theorem routeIrq_taken {s : State} (hp : s.mapper.pending = true) (hi : s.cpu.p.getLsbD 2 = false) :
    routeIrq false s = interruptEntry .irq 0xFFFE#16 (withdrawIrq s) := by
  rw [routeIrq, applyIf, if_pos hp]
  exact if_neg (ne_true_of_eq_false hi)

/-! The end of a step, by the requests that it finds. -/

section

variable {held : Bool} {s : State} (hf : s.fatal = none)
include hf

theorem endStep_running (hnmi : (routeNmi s).fatal = none) (hirq : (routeIrq held (routeNmi s)).fatal = none) :
    endStep held s = (routeIrq held (routeNmi s)).setClk (s.clk + 1) := by
  rw [endStep, andThen_running hf, andThen_running hnmi, andThen_running hirq, routeIrq_clk, routeNmi_clk]

/-- R431: an NMI entry sets interrupt-disable, so that an IRQ of the same step is lost. -/
theorem endStep_nmi (hnmi : s.ppu.nmi = true) (hsp : 3 ≤ s.cpu.sp.toNat) :
    endStep held s = (interruptEntry .nmi 0xFFFA#16 (withdrawIrq (withdrawNmi s))).setClk (s.clk + 1) := by
  have hroute := routeNmi_requested hnmi
  have hfatal : (routeNmi s).fatal = none := by
    rw [hroute]
    exact interruptEntry_fits_fatal .nmi (by decide) (by decide) hf hsp
  have hdisabled : (routeNmi s).cpu.p.getLsbD 2 = true := by
    rw [hroute]
    exact interruptEntry_fits_disables .nmi (by decide) (by decide) hf hsp
  have hlost := routeIrq_lost (held := held) fun _ => .inl hdisabled
  rw [endStep_running hf hfatal (hlost ▸ hfatal), hlost, hroute,
    interruptEntry_withdrawIrq (s := withdrawNmi s) .nmi (by decide) (by decide) hf hsp]

theorem endStep_irq (hnmi : s.ppu.nmi = false) (hp : s.mapper.pending = true) (hi : s.cpu.p.getLsbD 2 = false)
    (hsp : 3 ≤ s.cpu.sp.toNat) :
    endStep false s = (interruptEntry .irq 0xFFFE#16 (withdrawIrq s)).setClk (s.clk + 1) := by
  have hnone := routeNmi_none hnmi
  have htaken := routeIrq_taken hp hi
  have hfatal : (routeIrq false s).fatal = none := by
    rw [htaken]
    exact interruptEntry_fits_fatal .irq (by decide) (by decide) hf hsp
  rw [endStep_running hf (hnone.symm ▸ hf) (hnone.symm ▸ hfatal), hnone, htaken]

theorem endStep_lost (hnmi : s.ppu.nmi = false)
    (h : s.mapper.pending = true → s.cpu.p.getLsbD 2 = true ∨ held = true) :
    endStep held s = (withdrawIrq s).setClk (s.clk + 1) := by
  have hnone := routeNmi_none hnmi
  have hlost := routeIrq_lost h
  rw [endStep_running hf (hnone.symm ▸ hf) (hnone.symm ▸ hlost.symm ▸ hf), hnone, hlost]

/-- R423: an NMI entry that meets the stack boundary ends the step. -/
theorem endStep_nmi_boundary (hnmi : s.ppu.nmi = true) (hsp : s.cpu.sp.toNat < 3) :
    endStep held s = interruptEntry .nmi 0xFFFA#16 (withdrawNmi s) := by
  rw [endStep, andThen_running hf, routeNmi_requested hnmi,
    andThen_stopped (interruptEntry_boundary .nmi 0xFFFA#16 (s := withdrawNmi s) hf hsp)]

/-- R423: an IRQ entry that meets the stack boundary ends the step. -/
theorem endStep_irq_boundary (hnmi : s.ppu.nmi = false) (hp : s.mapper.pending = true)
    (hi : s.cpu.p.getLsbD 2 = false) (hsp : s.cpu.sp.toNat < 3) :
    endStep false s = interruptEntry .irq 0xFFFE#16 (withdrawIrq s) := by
  rw [endStep, andThen_running hf, routeNmi_none hnmi, andThen_running hf, routeIrq_taken hp hi,
    andThen_stopped (interruptEntry_boundary .irq 0xFFFE#16 (s := withdrawIrq s) hf hsp)]

end

/-- Settles O37: one case of the requests for each clause; where the PPU has none, withdrawing it changes nothing. -/
theorem interruptRouting : Obligations.InterruptRouting := by
  intro s held hf q
  have hq : s.ppu.nmi = false → q = withdrawIrq s := fun h => congrArg withdrawIrq (withdrawNmi_of_none h)
  refine ⟨Mapper.pending_clearInterrupt _, fun hnmi hsp => endStep_nmi hf hnmi hsp, ?_, ?_, ?_, ?_⟩
  · rintro hnmi hp hi rfl hsp
    rw [hq hnmi]
    exact endStep_irq hf hnmi hp hi hsp
  · intro hnmi hlost
    rw [hq hnmi]
    exact endStep_lost hf hnmi hlost
  · intro hnmi hsp
    exact ⟨endStep_nmi_boundary hf hnmi hsp, interruptEntry_boundary .nmi _ hf hsp,
      interruptEntry_nmi .nmi _ _ (by decide) (by decide), interruptEntry_mapper .nmi _ _ (by decide) (by decide),
      interruptEntry_clk .nmi _ _ (by decide) (by decide)⟩
  · rintro hnmi hp hi rfl hsp
    refine ⟨?_, interruptEntry_boundary .irq _ hf hsp, interruptEntry_mapper .irq _ _ (by decide) (by decide),
      interruptEntry_clk .irq _ _ (by decide) (by decide)⟩
    rw [hq hnmi]
    exact endStep_irq_boundary hf hnmi hp hi hsp

end Sys2Proof.Machine
end

section
/-! SUPPORT. The port writes as numbers (47_ppu_registers_memory.md R275 to R282, R288): what the control, scroll and
address ports make of the loopy registers, and the data port's advance. -/

namespace Sys2Proof.Machine

/-- A field of a word as a number. -/
theorem field_toNat {w : Nat} (d : BitVec w) (start len : Nat) :
    (d.extractLsb' start len).toNat = d.toNat / 2 ^ start % 2 ^ len := by
  rw [BitVec.extractLsb'_toNat, Nat.shiftRight_eq_div_pow]

/-- R280: the pixel within a tile. -/
theorem scrollPixel_toNat (d : Byte) : (d.extractLsb' 0 3).toNat = d.toNat % 8 := by
  rw [field_toNat, pow_zero, Nat.div_one]
  rfl

/-- R280: the tile. -/
theorem scrollTile_toNat (d : Byte) : (d.extractLsb' 3 5).toNat = d.toNat / 8 := by
  rw [field_toNat]
  exact Nat.mod_eq_of_lt (Nat.div_lt_of_lt_mul d.isLt)

/-- A 15-bit address from its high seven bits and its low byte. -/
theorem address_toNat (hi : BitVec 7) (lo : Byte) : (hi ++ lo).toNat = 256 * hi.toNat + lo.toNat := by
  rw [BitVec.toNat_append, ← Nat.shiftLeft_add_eq_or_of_lt lo.isLt, Nat.shiftLeft_eq, Nat.mul_comm]

/-- R281: the address port's second write keeps the high bits. -/
theorem replaceLowByte_eq (t : BitVec 15) (d : Byte) :
    (t &&& 0x7F00#15) ||| d.setWidth 15 = t.extractLsb' 8 7 ++ d := by
  apply BitVec.eq_of_getLsbD_eq
  intro i hi
  rw [BitVec.getLsbD_append]
  interval_cases i <;> simp

/-- R281: the address port's first write keeps the low byte and takes six bits. -/
theorem replaceHighBits_eq (t : BitVec 15) (d : Byte) :
    ((d &&& 0x3F#8).setWidth 15 <<< 8) ||| (t &&& 0x00FF#15) =
      (d.extractLsb' 0 6).setWidth 7 ++ t.extractLsb' 0 8 := by
  apply BitVec.eq_of_getLsbD_eq
  intro i hi
  rw [BitVec.getLsbD_append]
  interval_cases i <;> simp

/-- The row field replaced, with the bits below and above it as numbers. -/
theorem setCoarseY_toNat_parts (v : BitVec 15) (y : BitVec 5) :
    (setCoarseY v y).toNat = v.toNat % 32 + 32 * y.toNat + 1024 * (v.toNat / 1024) := by
  rw [setCoarseY_toNat]
  omega

/-! The registers after one write. -/

/-- R275: the name-table bits of `tram` are the control byte's low two. -/
theorem controlWrite_eq (p : Ppu) (d : Byte) :
    controlWrite p d = { p with
      control := d
      tram := BitVec.ofNat 15 (p.tram.toNat % 1024 + 1024 * (d.toNat % 4) + 4096 * (p.tram.toNat / 4096)) } := by
  have htram : setNtY (setNtX p.tram (d.extractLsb' 0 1)) (d.extractLsb' 1 1) =
      BitVec.ofNat 15 (p.tram.toNat % 1024 + 1024 * (d.toNat % 4) + 4096 * (p.tram.toNat / 4096)) := by
    apply BitVec.eq_of_toNat_eq
    rw [setNtY_toNat, setNtX_toNat, field_toNat, field_toNat, BitVec.toNat_ofNat]
    have ht := p.tram.isLt
    omega
  rw [controlWrite, htram]

/-- R280: the horizontal half. -/
theorem scrollWrite_first {p : Ppu} (h : p.latch = false) (d : Byte) :
    scrollWrite p d = { p with
      fineX := BitVec.ofNat 3 d.toNat
      tram := BitVec.ofNat 15 (p.tram.toNat - p.tram.toNat % 32 + d.toNat / 8)
      latch := true } := by
  have htram : setCoarseX p.tram (d.extractLsb' 3 5) =
      BitVec.ofNat 15 (p.tram.toNat - p.tram.toNat % 32 + d.toNat / 8) := by
    apply BitVec.eq_of_toNat_eq
    rw [setCoarseX_toNat, scrollTile_toNat, BitVec.toNat_ofNat]
    have ht := p.tram.isLt
    have hd := d.isLt
    omega
  rw [scrollWrite, if_neg (ne_true_of_eq_false h), htram]
  rfl

/-- R280: the vertical half. -/
theorem scrollWrite_second {p : Ppu} (h : p.latch = true) (d : Byte) :
    scrollWrite p d = { p with
      tram := BitVec.ofNat 15 (p.tram.toNat % 32 + 32 * (d.toNat / 8) + 1024 * (p.tram.toNat / 1024 % 4)
        + 4096 * (d.toNat % 8))
      latch := false } := by
  have htram : setCoarseY (setFineY p.tram (d.extractLsb' 0 3)) (d.extractLsb' 3 5) =
      BitVec.ofNat 15 (p.tram.toNat % 32 + 32 * (d.toNat / 8) + 1024 * (p.tram.toNat / 1024 % 4)
        + 4096 * (d.toNat % 8)) := by
    apply BitVec.eq_of_toNat_eq
    rw [setCoarseY_toNat_parts, setFineY_toNat, scrollPixel_toNat, scrollTile_toNat, BitVec.toNat_ofNat]
    have hd := d.isLt
    have hcolumn : (p.tram.toNat % 4096 + 4096 * (d.toNat % 8)) % 32 = p.tram.toNat % 32 := by omega
    have habove : (p.tram.toNat % 4096 + 4096 * (d.toNat % 8)) / 1024 =
      p.tram.toNat / 1024 % 4 + 4 * (d.toNat % 8) := by omega
    rw [hcolumn, habove]
    omega
  rw [scrollWrite, if_pos h, htram]

/-- R281: the high half. -/
theorem addressWrite_first {p : Ppu} (h : p.latch = false) (d : Byte) :
    addressWrite p d = { p with
      tram := BitVec.ofNat 15 (256 * (d.toNat % 64) + p.tram.toNat % 256)
      latch := true } := by
  have htram : ((d &&& 0x3F#8).setWidth 15 <<< 8) ||| (p.tram &&& 0x00FF#15) =
      BitVec.ofNat 15 (256 * (d.toNat % 64) + p.tram.toNat % 256) := by
    apply BitVec.eq_of_toNat_eq
    rw [replaceHighBits_eq, address_toNat, BitVec.toNat_setWidth, field_toNat, field_toNat,
      BitVec.toNat_ofNat]
    omega
  rw [addressWrite, if_neg (ne_true_of_eq_false h), htram]

/-- R281: the low half, which `vram` takes over. -/
theorem addressWrite_second {p : Ppu} (h : p.latch = true) (d : Byte) :
    addressWrite p d = { p with
      tram := BitVec.ofNat 15 (256 * (p.tram.toNat / 256) + d.toNat)
      vram := BitVec.ofNat 15 (256 * (p.tram.toNat / 256) + d.toNat)
      latch := false } := by
  have htram : (p.tram &&& 0x7F00#15) ||| d.setWidth 15 =
      BitVec.ofNat 15 (256 * (p.tram.toNat / 256) + d.toNat) := by
    apply BitVec.eq_of_toNat_eq
    rw [replaceLowByte_eq, address_toNat, field_toNat, BitVec.toNat_ofNat]
    have ht := p.tram.isLt
    have hd := d.isLt
    omega
  rw [addressWrite, if_pos h]
  dsimp only
  rw [htram]

@[simp] theorem ppuWrite_vram (s : State) (a : Nat) (v : Byte) : (ppuWrite s a v).ppu.vram = s.ppu.vram := by
  rw [ppuWrite_eq_storeAt]
  rcases ppuPlace s a with _ | _ | _ | _ | _ | _ | _ | _ <;> rfl

@[simp] theorem ppuWrite_control (s : State) (a : Nat) (v : Byte) : (ppuWrite s a v).ppu.control = s.ppu.control := by
  rw [ppuWrite_eq_storeAt]
  rcases ppuPlace s a with _ | _ | _ | _ | _ | _ | _ | _ <;> rfl

/-- R282, R288: the byte goes to the address that stands before the advance. -/
theorem dataWrite_eq (s : State) (d : Byte) :
    dataWrite s d = (ppuWrite s s.ppu.vram.toNat d).setPpu { (ppuWrite s s.ppu.vram.toNat d).ppu with
      vram := BitVec.ofNat 15 (s.ppu.vram.toNat + if s.ppu.control.getLsbD 2 then 32 else 1) } := by
  have hvram := vram_add_dataStep (ppuWrite s s.ppu.vram.toNat d).ppu
  rw [ppuWrite_vram, ppuWrite_control] at hvram
  rw [dataWrite, Ppu.advance, ppuWrite_vram, hvram]

/-! Two writes from a clear toggle. -/

/-- R280: the first write gives the horizontal fields, the second the vertical ones; the name table stays. -/
theorem scrollWrite_twice {p : Ppu} (h : p.latch = false) (u v : Byte) :
    let q := scrollWrite (scrollWrite p u) v
    q.fineX.toNat = u.toNat % 8 ∧
    q.tram.toNat = u.toNat / 8 + 32 * (v.toNat / 8) + 1024 * (p.tram.toNat / 1024 % 4) + 4096 * (v.toNat % 8) ∧
    q.latch = false ∧ q.vram = p.vram := by
  rw [scrollWrite_first h, scrollWrite_second rfl]
  refine ⟨BitVec.toNat_ofNat _ _, ?_, rfl, rfl⟩
  have ht := p.tram.isLt
  have hu := u.isLt
  have hv := v.isLt
  have hfirst : (BitVec.ofNat 15 (p.tram.toNat - p.tram.toNat % 32 + u.toNat / 8)).toNat =
      32 * (p.tram.toNat / 32) + u.toNat / 8 := by
    rw [BitVec.toNat_ofNat]
    omega
  have hcolumn : (32 * (p.tram.toNat / 32) + u.toNat / 8) % 32 = u.toNat / 8 := by omega
  have habove : (32 * (p.tram.toNat / 32) + u.toNat / 8) / 1024 = p.tram.toNat / 1024 := by omega
  simp only [hfirst, hcolumn, habove, BitVec.toNat_ofNat]
  omega

/-- R281: the two writes give the whole address, with bit 14 clear. -/
theorem addressWrite_twice {p : Ppu} (h : p.latch = false) (u v : Byte) :
    let q := addressWrite (addressWrite p u) v
    q.vram.toNat = 256 * (u.toNat % 64) + v.toNat ∧ q.tram = q.vram ∧ q.latch = false ∧ q.fineX = p.fineX := by
  rw [addressWrite_first h, addressWrite_second rfl]
  refine ⟨?_, rfl, rfl, rfl⟩
  simp only [BitVec.toNat_ofNat]
  have hv := v.isLt
  omega

/-- Settles O44: every mirror of a port is the port modulo 8, and each port has its equation above. -/
theorem scrollAndAddress : Obligations.ScrollAndAddress := by
  intro s u v
  refine ⟨fun hl => ⟨scrollWrite_twice hl u v, addressWrite_twice hl u v⟩, fun a h h' => ?_⟩
  rw [memWrite_port a v s h (by omega)]
  refine ⟨fun hk => ?_, fun hk => ?_, fun hk hl => ?_, fun hk hl => ?_, fun hk hl => ?_, fun hk hl => ?_,
    fun hk => ?_⟩
  · rw [hk]
    exact congrArg s.setPpu (controlWrite_eq s.ppu v)
  · rw [hk]
    rfl
  · rw [hk]
    exact congrArg s.setPpu (scrollWrite_first hl v)
  · rw [hk]
    exact congrArg s.setPpu (scrollWrite_second hl v)
  · rw [hk]
    exact congrArg s.setPpu (addressWrite_first hl v)
  · rw [hk]
    exact congrArg s.setPpu (addressWrite_second hl v)
  · rw [hk]
    exact dataWrite_eq s v

/-! The OAM ports (R278, R279, R284). -/

/-- R278: the address port. -/
theorem memWrite_oamAddr (k : Byte) (s : State) : memWrite 0x2003#16 k s = s.setPpu { s.ppu with oamAddr := k } :=
  memWrite_port 0x2003#16 k s (by decide) (by decide)

/-- R279: the data port. -/
theorem memWrite_oamData (v : Byte) (s : State) : memWrite 0x2004#16 v s = s.setPpu (oamDataWrite s.ppu v) :=
  memWrite_port 0x2004#16 v s (by decide) (by decide)

/-- R284: a data read changes nothing. -/
theorem memRead_oamData (s : State) : memRead 0x2004#16 s = (s.ppu.oam.read s.ppu.oamAddr.toNat, s) :=
  memRead_port 0x2004#16 s (by decide) (by decide)

/-- Settles O46: the three port equations, and read after write in OAM. -/
theorem oamPorts : Obligations.OamPorts := by
  intro s k v w ⟨_, _, _, _, hoam, _⟩
  rw [memWrite_oamAddr, memWrite_oamData]
  refine ⟨BitVec.toNat_add k 1#8, fun j => Memory.read_write hoam.1 _ j v, memRead_oamData _, ?_⟩
  rw [memWrite_oamAddr, memRead_oamData]
  rfl

end Sys2Proof.Machine
end

section
/-! SUPPORT. Illegal opcodes and the stack boundary (60_exceptions.md R421 to R423, R429, R433): a push, a 16-bit push and an
interrupt entry that meet the boundary as one equation each, and RTI after an entry; then the statements. -/

namespace Sys2Proof.Machine

/-- R421: the address before `PC`, modulo 65536. -/
theorem pred_eq_ofNat (pc : Word) : pc - 1#16 = BitVec.ofNat 16 (pc.toNat + 65535) := by
  apply BitVec.eq_of_toNat_eq
  rw [BitVec.toNat_sub, BitVec.toNat_ofNat, Nat.add_comm]
  rfl

/-- Settles O30: the decoder's round trip on one byte, and the meaning with the address as a number. -/
theorem illegalResult : Obligations.IllegalResult := by
  intro op s
  refine ⟨fun hop rest => decodeEncode (.illegal op) rest (wellFormed_illegal_iff.2 hop), ?_⟩
  rw [← pred_eq_ofNat]
  rfl

/-! The boundary (R422, R423). -/

theorem Cpu.setSp_self {c : Cpu} {v : Byte} (h : c.sp = v) : c.setSp v = c := by
  rw [← h]
  rfl

/-- R191, R422: a 16-bit push that meets the stack boundary: at most its high byte is stored. -/
theorem pushWord_boundary (o : Origin) (w : Word) {s : State} (hf : s.fatal = none) (h : s.cpu.sp.toNat < 2) :
    pushWord o w s =
      ((s.setRam (storePushes s.ram s.cpu.sp.toNat ([hiByte w, loByte w].take s.cpu.sp.toNat))).setCpu
        (s.cpu.setSp 0x00#8)).setFatal (some (.stackBoundary o)) := by
  have hs : s.cpu.sp = 0#8 ∨ s.cpu.sp = 1#8 := by bv_omega
  unfold pushWord
  rcases hs with e | e
  · rw [push_boundary _ _ _ e, andThen_stopped (x := .stackBoundary o) rfl, Cpu.setSp_self e, e]
    rfl
  · rw [push_eq _ _ _ (by rw [e]; decide), andThen_running (by exact hf), push_boundary _ _ _ (by rw [e]; rfl), e]
    rfl

/-- What an instruction that has met the stack boundary leaves: the pushes `bytes` that fitted, `SP` 0, the fatal status
with the address of the instruction of `length` bytes, and `PC`, `P`, `cycles` and the data registers given or as they
were. -/
def stoppedAtBoundary (s t : State) (length : Nat) (bytes : List Byte) (pc : Word) : Prop :=
  t.fatal = some (.stackBoundary (.instr (s.cpu.pc - BitVec.ofNat 16 length))) ∧
  t.ram = storePushes s.ram s.cpu.sp.toNat (bytes.take s.cpu.sp.toNat) ∧ t.cpu.sp = 0x00#8 ∧ t.cpu.pc = pc ∧
  t.cpu.p = s.cpu.p ∧ t.cpu.cycles = s.cpu.cycles ∧ (∀ q, t.cpu.reg q = s.cpu.reg q)

/-- R422: a one-byte push at the boundary, as the last act of an instruction, loads no count. -/
theorem finish_push_boundary (n : Nat) (v : Byte) {s : State} (h : s.cpu.sp.toNat < 1) :
    ∃ t, finish n (push (instrOrigin 1 s) v s) = .next t ∧ stoppedAtBoundary s t 1 [v] s.cpu.pc := by
  have hsp : s.cpu.sp = 0x00#8 := by bv_omega
  rw [push_boundary _ _ _ hsp]
  refine ⟨_, finish_stopped n (x := .stackBoundary (instrOrigin 1 s)) rfl, rfl, ?_, hsp, rfl, rfl, rfl, fun _ => rfl⟩
  rw [hsp]
  rfl

/-- Settles O31: the push of each instruction at the boundary, after which `finish` loads nothing. -/
theorem stackBoundary : Obligations.StackBoundary := by
  intro s w hf stop jsrRet brkRet
  refine ⟨fun h => ⟨finish_push_boundary 3 _ h, finish_push_boundary 3 _ h⟩, fun h => ?_, fun h => ?_⟩
  · change ∃ t, jsrOp (.abs w) 6 s = .next t ∧ _
    have hpush := pushWord_boundary (instrOrigin 3 s) jsrRet (s := s.setCpu (s.cpu.setAddrAbs w)) hf h
    rw [jsrOp, show (resolve (.abs w) s).st = s.setCpu (s.cpu.setAddrAbs w) from rfl, hpush,
      andThen_stopped (x := .stackBoundary (instrOrigin 3 s)) rfl]
    exact ⟨_, finish_stopped 6 (x := .stackBoundary (instrOrigin 3 s)) rfl, rfl, rfl, rfl, rfl, rfl, rfl,
      fun q => by cases q <;> rfl⟩
  · change ∃ t, finish 7 (takeException (instrOrigin 1 s) 0xFFFE#16 (statusWithBreak s.cpu.p)
      (s.setCpu (s.cpu.setPc brkRet))) = .next t ∧ _
    rw [takeException_boundary _ _ _ (s.setCpu (s.cpu.setPc brkRet)) hf h]
    exact ⟨_, finish_stopped 7 (x := .stackBoundary (instrOrigin 1 s)) rfl, rfl, rfl, rfl, rfl, rfl, rfl,
      fun q => by cases q <;> rfl⟩

/-! Interrupt entry and its return (R429, R433). -/

/-- Both vectors of an interrupt entry lie in the cartridge. -/
theorem vector_range {v : Word} (h : v = 0xFFFA#16 ∨ v = 0xFFFE#16) : 0x6000 ≤ v.toNat ∧ v.toNat < 0xFFFF := by
  rcases h with rfl | rfl <;> decide

/-- Settles O36: the exception taken with the canonical status; at the boundary `cycles` is not loaded. -/
theorem interruptEntryStatement : Obligations.InterruptEntry := by
  intro o v s hv hf saved
  obtain ⟨hlo, hhi⟩ := vector_range hv
  refine ⟨fun h => interruptEntry_fits o hlo hhi hf h, fun h => ?_⟩
  rw [interruptEntry, takeException_boundary o v _ s hf h]
  rfl

/-- R14, R138: masking a status byte whose bits 4 and 5 are the fixed ones changes nothing. -/
theorem statusCanonical_of_fixed {p : Byte} (h4 : p.getLsbD 4 = false) (h5 : p.getLsbD 5 = true) :
    statusCanonical p = p := by
  apply BitVec.eq_of_getLsbD_eq
  intro j hj
  unfold statusCanonical
  interval_cases j <;> simp_all

/-- The three bytes that an entry has pushed, read back. -/
theorem storePushes_three {m : Memory} (h : m.wf = true) {n : Nat} (hn : 3 ≤ n) (a b c : Byte) :
    (storePushes m n [a, b, c]).read (0x100 + n) = a ∧ (storePushes m n [a, b, c]).read (0x100 + (n - 1)) = b ∧
    (storePushes m n [a, b, c]).read (0x100 + (n - 2)) = c := by
  simp only [storePushes]
  refine ⟨?_, ?_, Memory.read_write_same (Memory.wf_write (Memory.wf_write h _ _) _ _) _ _⟩
  · rw [Memory.read_write_other _ _ (by omega), Memory.read_write_other _ _ (by omega), Memory.read_write_same h]
  · rw [Memory.read_write_other _ _ (by omega), Memory.read_write_same (Memory.wf_write h _ _)]

/-- Settles O38: the return pulls the three bytes that the entry has pushed. -/
theorem rtiUndoesEntry : Obligations.RtiUndoesEntry := by
  intro o v s t hf hwf ⟨h4, h5⟩ hv hsp ht
  obtain ⟨hlo, hhi⟩ := vector_range hv
  obtain ⟨hpch, hpcl, hst⟩ :=
    storePushes_three hwf hsp (hiByte s.cpu.pc) (loByte s.cpu.pc) (statusCanonical s.cpu.p)
  have hentry := interruptEntry_fits o hlo hhi hf hsp
  generalize interruptEntry o v s = u at hentry ht
  have hram : u.ram = storePushes s.ram s.cpu.sp.toNat
      [hiByte s.cpu.pc, loByte s.cpu.pc, statusCanonical s.cpu.p] := congrArg (fun u => u.ram) hentry
  have husp : u.cpu.sp = s.cpu.sp - 3#8 := congrArg (fun u => u.cpu.sp) hentry
  have hreg : ∀ q, u.cpu.reg q = s.cpu.reg q := fun q => by
    rw [hentry]
    cases q <;> rfl
  have huf : u.fatal = none := (congrArg (fun u => u.fatal) hentry).trans hf
  obtain rfl := Host.Outcome.next.inj ((rtiResult u huf).2.symm.trans ht)
  have h1 : (u.cpu.sp.toNat + 1) % 256 = s.cpu.sp.toNat - 2 := by rw [husp]; bv_omega
  have h2 : (u.cpu.sp.toNat + 2) % 256 = s.cpu.sp.toNat - 1 := by rw [husp]; bv_omega
  have h3 : (u.cpu.sp.toNat + 3) % 256 = s.cpu.sp.toNat := by rw [husp]; bv_omega
  refine ⟨?_, ?_, ?_, fun q => (show _ = u.cpu.reg q by cases q <;> rfl).trans (hreg q), huf⟩
  · change u.ram.read _ ++ u.ram.read _ = s.cpu.pc
    rw [hram, h3, h2, hpch, hpcl]
    exact mkWord_hiByte_loByte _
  · change statusCanonical (u.ram.read _) = s.cpu.p
    rw [hram, h1, hst, statusCanonical_of_fixed h4 h5, statusCanonical_of_fixed h4 h5]
  · change u.cpu.sp + 3#8 = s.cpu.sp
    rw [husp]
    bv_omega

end Sys2Proof.Machine
end

section
/-! SUPPORT. Reset and power-on (70_reset_and_hazards.md R450 to R457): the state after a reset as one equation, and the
memories after either event; then the statements. -/

namespace Sys2Proof.Machine

/-- The state of a reset before its CPU part (R453 to R456). -/
def resetAround (s : State) : State := initBus (initPpu (initPads (initCartridge s)))

/-- R452: the reset vector, whose two bytes lie in the cartridge. -/
theorem memRead16_resetVector_fst (s : State) :
    (memRead16 0xFFFC#16 s).1 = mkWord (memRead 0xFFFD#16 s).1 (memRead 0xFFFC#16 s).1 := by
  have h : (memRead 0xFFFC#16 s).2 = s := memRead_memory _ _ (.inr (by decide))
  exact congrArg (fun t => mkWord (memRead 0xFFFD#16 t).1 (memRead 0xFFFC#16 s).1) h

theorem resetAround_params (s : State) : (resetAround s).params = s.params := by
  simp [resetAround, initBus, initPpu, initPads, initCartridge]

/-- R451, R452: a reset as an equation. -/
theorem warmReset_vector (s : State) :
    warmReset s = ((resetAround s).setCpu (Cpu.reset s.params
      (mkWord (memRead 0xFFFD#16 (resetAround s)).1 (memRead 0xFFFC#16 (resetAround s)).1))).setFatal none := by
  have h := initCpu_eq (resetAround s)
  rw [memRead16_resetVector_fst, resetAround_params] at h
  exact h

/-- The cartridge answers a read without a look at the CPU. -/
theorem memRead_setCpu_setFatal {a : Word} (h : 0x6000 ≤ a.toNat) (s : State) (c : Cpu) (f : Option Fatal) :
    (memRead a ((s.setCpu c).setFatal f)).1 = (memRead a s).1 := by
  rw [memRead_cartridge _ _ h, memRead_cartridge _ _ h]
  rfl

/-- Settles O39: field by field of that equation; the vector read again in the state after it. -/
theorem resetRegisters : Obligations.ResetRegisters := by
  intro s
  rw [warmReset_vector]
  generalize hv : mkWord (memRead 0xFFFD#16 (resetAround s)).1 (memRead 0xFFFC#16 (resetAround s)).1 = v
  refine ⟨rfl, rfl, rfl, rfl, rfl, rfl, ?_, rfl, rfl, rfl, rfl, rfl, rfl, rfl, rfl, rfl, rfl, rfl, rfl, rfl, rfl, rfl, rfl,
    rfl, rfl, rfl, rfl, rfl, rfl, rfl, rfl, rfl, rfl, rfl, rfl, rfl, rfl, rfl, rfl, rfl, rfl, rfl, rfl, rfl⟩
  rw [memRead_setCpu_setFatal (by decide), memRead_setCpu_setFatal (by decide)]
  exact hv.symm

/-- R455, R457: the byte at a place of the memories that a reset keeps. -/
theorem byteAt_warmReset (s : State) (p : Place) (h : ∀ j, p ≠ .prgRam j ∧ p ≠ .chrRam j) :
    (warmReset s).byteAt p = s.byteAt p := by
  obtain ⟨hram, hprg, hchr, hppu⟩ := warmReset_memories s
  cases p
  case prgRam j => exact absurd rfl (h j).1
  case chrRam j => exact absurd rfl (h j).2
  all_goals simp only [State.byteAt, hram, hppu, Ppu.reset]

/-- R457: power-on fills every memory. -/
theorem byteAt_powerOn (c : Cartridge) (s : State) (p : Place) :
    (powerOn c s).byteAt p = initialByte s.params.initial p := by
  obtain ⟨hram, hprg, hchr, hppu⟩ := warmReset_memories (initMemories (s.setCart c))
  cases p
  all_goals simp only [powerOn, State.byteAt, hram, hprg, hchr, hppu]
  all_goals rfl

/-- Settles O40: the memories, place by place, after each of the two events. -/
theorem resetMemories : Obligations.ResetMemories := by
  intro s c k t u
  obtain ⟨-, hprg, hchr, -⟩ := warmReset_memories s
  obtain ⟨-, -, -, hcart⟩ := warmReset_registers s
  obtain ⟨-, -, hmapper', hcart'⟩ := warmReset_registers (initMemories (s.setCart c))
  exact ⟨byteAt_warmReset s, congrArg (fun m : Memory => m.read k) hprg, congrArg (fun m : Memory => m.read k) hchr,
    hcart, warmReset_params s, hcart', hmapper', powerOn_params c s, byteAt_powerOn c s⟩

/-- R6: the default contents at power-on are empty memories. -/
theorem contentsSound_default : contentsSound {} :=
  ⟨⟨rfl, rfl⟩, ⟨rfl, rfl⟩, ⟨rfl, rfl⟩, ⟨rfl, rfl⟩, ⟨rfl, rfl⟩, ⟨rfl, rfl⟩, ⟨rfl, rfl⟩⟩

theorem everywhere_of_saves_nil {s : State} {P : Block → Prop} (hs : s.saves = []) (h : P s.toBlock) : s.everywhere P :=
  ⟨h, fun _ hb => absurd (hs ▸ hb) List.not_mem_nil⟩

/-- R450: the state after reset is the power-on of its own cartridge, so both invariants are those of a power-on. -/
theorem powerOn_reset : powerOn Cartridge.blank State.reset = State.reset := by
  rw [powerOn, warmReset_vector]
  rfl

/-- Settles O60: a power-on establishes both invariants, and the reset state is one. -/
theorem resetSatisfiesInvariants : Obligations.ResetSatisfiesInvariants := by
  have hmem : State.reset.memoriesHold := by
    rw [memoriesHold_iff, ← powerOn_reset]
    exact powerOn_sound contentsSound_default Cartridge.blank
  have hreg : State.reset.registersHold := by
    rw [← powerOn_reset]
    exact warmReset_registersHold _
  exact ⟨contentsSound_default, everywhere_of_saves_nil rfl hmem, everywhere_of_saves_nil rfl hreg,
    ⟨rfl, Nat.one_ne_zero⟩, powerOn_reset⟩

end Sys2Proof.Machine
end

section
/-! SUPPORT. The mappers' registers and windows (49_mappers_cartridge.md R374 to R397): what a CPU write at 0x8000 to 0xFFFF
does, MMC1's serial port, the program and character windows as numbers, and MMC3's counter; then the statements. -/

namespace Sys2Proof.Machine

/-- R374: a CPU write to the mapper's registers. -/
theorem memWrite_register {a : Word} (v : Byte) (s : State) (h : 0x8000 ≤ a.toNat) :
    memWrite a v s = regWrite s a.toNat v := by
  rw [memWrite_cartridge a v s (by omega), cartWrite, if_neg (by omega)]

/-! MMC1's serial port (R379 to R382). -/

/-- R379: a write with bit 7 set. -/
theorem mmc1Write_reset (r : Mmc1) (mir : Mirror) (a : Nat) {d : Byte} (h : d.getLsbD 7 = true) :
    mmc1Write r mir a d = ({ r with shift := 0#5, shiftCount := 0, control := r.control ||| 0x0C#5 }, mir) := by
  rw [mmc1Write, if_pos h]

/-- R380: the shift register after a serial write: the new bit enters at the top. -/
def Mmc1.shifted (r : Mmc1) (d : Byte) : BitVec 5 := putBit (r.shift >>> 1) 4 (d.getLsbD 0)

theorem bitZero_toNat (d : Byte) : (d.getLsbD 0).toNat = d.toNat % 2 := by
  rw [BitVec.getLsbD, Nat.testBit_zero]
  rcases Nat.mod_two_eq_zero_or_one d.toNat with h | h <;> simp [h]

theorem Mmc1.shifted_toNat (r : Mmc1) (d : Byte) : (r.shifted d).toNat = r.shift.toNat / 2 + 16 * (d.toNat % 2) := by
  have h : ∀ (v : BitVec 5) (b : Bool), (putBit (v >>> 1) 4 b).toNat = v.toNat / 2 + 16 * b.toNat := by decide
  rw [← bitZero_toNat]
  exact h _ _

/-- R380: a serial write that does not complete the register. -/
theorem mmc1Write_shift {r : Mmc1} (mir : Mirror) (a : Nat) {d : Byte} (h : d.getLsbD 7 = false) (hn : r.shiftCount ≠ 4) :
    mmc1Write r mir a d = ({ r with shift := r.shifted d, shiftCount := r.shiftCount + 1 }, mir) := by
  rw [mmc1Write, if_neg (h ▸ Bool.false_ne_true), if_neg (by omega)]
  rfl

/-- R381: the fifth serial write. -/
theorem mmc1Write_fifth {r : Mmc1} (mir : Mirror) (a : Nat) {d : Byte} (h : d.getLsbD 7 = false) (hn : r.shiftCount = 4) :
    mmc1Write r mir a d = mmc1Load r mir a (r.shifted d) := by
  rw [mmc1Write, if_neg (h ▸ Bool.false_ne_true), if_pos (by omega)]
  rfl

/-- R381: four serial writes from an empty shift register have shifted in four bits, the first lowest. -/
theorem mmc1Write_four {r : Mmc1} (mir : Mirror) (a b c d : Nat) {v w x y : Byte} (hn : r.shiftCount = 0)
    (hv : v.getLsbD 7 = false) (hw : w.getLsbD 7 = false) (hx : x.getLsbD 7 = false) (hy : y.getLsbD 7 = false) :
    let q1 := mmc1Write r mir a v
    let q2 := mmc1Write q1.1 q1.2 b w
    let q3 := mmc1Write q2.1 q2.2 c x
    ∃ f : BitVec 5, mmc1Write q3.1 q3.2 d y = ({ r with shift := f, shiftCount := 4 }, mir) ∧
      f.toNat / 2 = v.toNat % 2 + 2 * (w.toNat % 2) + 4 * (x.toNat % 2) + 8 * (y.toNat % 2) := by
  intro q1 q2 q3
  have h1 : q1 = ({ r with shift := r.shifted v, shiftCount := 1 }, mir) := by
    rw [show q1 = _ from mmc1Write_shift mir a hv (by omega), hn]
  have h2 : q2 = ({ r with shift := q1.1.shifted w, shiftCount := 2 }, mir) := by
    rw [show q2 = _ from mmc1Write_shift _ b hw (by simp [h1]), h1]
  have h3 : q3 = ({ r with shift := q2.1.shifted x, shiftCount := 3 }, mir) := by
    rw [show q3 = _ from mmc1Write_shift _ c hx (by simp [h2]), h2]
  refine ⟨q3.1.shifted y, ?_, ?_⟩
  · rw [mmc1Write_shift _ d hy (by simp [h3]), h3]
  · have e1 : q1.1.shift = r.shifted v := congrArg (fun q => q.1.shift) h1
    have e2 : q2.1.shift = q1.1.shifted w := congrArg (fun q => q.1.shift) h2
    have e3 : q3.1.shift = q2.1.shifted x := congrArg (fun q => q.1.shift) h3
    rw [Mmc1.shifted_toNat, e3, Mmc1.shifted_toNat, e2, Mmc1.shifted_toNat, e1, Mmc1.shifted_toNat]
    have := r.shift.isLt
    omega

/-- R381, R382: the register that address bits 14:13 select is loaded, and the shift register emptied. -/
theorem mmc1Load_eq (r : Mmc1) (mir : Mirror) (a : Nat) (v : BitVec 5) :
    mmc1Load r mir a v = (
      { shift := 0#5, shiftCount := 0
        control := if a < 0xA000 then v else r.control
        chrBank0 := if 0xA000 ≤ a ∧ a < 0xC000 then v else r.chrBank0
        chrBank1 := if 0xC000 ≤ a ∧ a < 0xE000 then v else r.chrBank1
        prgBank := if 0xE000 ≤ a then v else r.prgBank },
      if a < 0xA000 then mmc1Mirror v else mir) := by
  unfold mmc1Load
  by_cases h1 : a < 0xA000
  · simp [h1, show ¬ 0xA000 ≤ a by omega, show ¬ 0xC000 ≤ a by omega, show ¬ 0xE000 ≤ a by omega]
  · by_cases h2 : a < 0xC000
    · simp [h1, h2, show 0xA000 ≤ a by omega, show ¬ 0xC000 ≤ a by omega, show ¬ 0xE000 ≤ a by omega]
    · by_cases h3 : a < 0xE000
      · simp [h1, h2, h3, show 0xC000 ≤ a by omega, show ¬ 0xE000 ≤ a by omega]
      · simp [h1, h2, h3, show 0xE000 ≤ a by omega]

/-- R382: the two bits of a control value that select the mirroring mode. -/
theorem mmc1MirrorBits_toNat (v : BitVec 5) : (v.extractLsb' 0 2).toNat = v.toNat % 4 := by simp

/-- A field of a byte as the number that it is. -/
theorem field_eq_ofNat (d : Byte) (start len : Nat) :
    d.extractLsb' start len = BitVec.ofNat len (d.toNat / 2 ^ start) := by
  apply BitVec.eq_of_toNat_eq
  rw [field_toNat, BitVec.toNat_ofNat]

/-- Settles O49: the register writes of each mapper, and MMC1's fifth write after four that have shifted in their bits. -/
theorem mmc1LoadStatement : Obligations.Mmc1Load := by
  refine ⟨fun s a d h => ?_, fun r mir a k hk => mmc1Write_reset r mir a hk, ?_⟩
  · rw [memWrite_register d s h, regWrite]
    refine ⟨fun e => by rw [e], fun r e => by rw [e], fun q e => ?_, fun q e => ?_, fun q q' e => ?_⟩
    · rw [e, field_eq_ofNat d 0 4, pow_zero, Nat.div_one]
    · rw [e]
      exact congrArg (fun k => s.setMapper (.cnrom k)) (apply_ite (BitVec.ofNat 8) _ 0 _).symm
    · rw [e, field_eq_ofNat d 0 2, field_eq_ofNat d 4 2, pow_zero, Nat.div_one]
      rfl
  intro r mir a b c d e v w x y z hn hv hw hx hy hz he he' q1 q2 q3 q4 q5 bits
  obtain ⟨f, h4, hf⟩ := mmc1Write_four mir a b c d hn hv hw hx hy
  have hq4 : q4 = ({ r with shift := f, shiftCount := 4 }, mir) := h4
  have hq5 : q5 = mmc1Load q4.1 q4.2 e (q4.1.shifted z) := mmc1Write_fifth _ e hz (by rw [hq4])
  have hbits : (q4.1.shifted z).toNat = bits := by
    rw [Mmc1.shifted_toNat, hq4, hf]
  rw [mmc1Load_eq, hq4] at hq5
  rw [hq4] at hbits
  rw [hq5]
  refine ⟨rfl, ?_, ?_, ?_, ?_, ?_, fun k hk => ?_⟩
  · rw [← hbits]; exact apply_ite BitVec.toNat _ _ _
  · rw [← hbits]; exact apply_ite BitVec.toNat _ _ _
  · rw [← hbits]; exact apply_ite BitVec.toNat _ _ _
  · rw [← hbits]; exact apply_ite BitVec.toNat _ _ _
  · dsimp only
    rw [mmc1Mirror, mmc1MirrorBits_toNat, hbits] <;> rfl
  · rw [hq4, mmc1Write_reset _ _ _ hk]

end Sys2Proof.Machine
end

section
/-! SUPPORT. The program windows (49_mappers_cartridge.md R374, R378, R383, R385, R386, R389, R396, R397): a CPU read of the
program image, and the offset of each mapper as a number; then the statement. -/

namespace Sys2Proof.Machine

/-- R374: a CPU read of the program image. -/
theorem memRead_program (s : State) {a : Nat} (h : 0x8000 ≤ a) (h' : a < 0x10000) :
    memRead (BitVec.ofNat 16 a) s = (Memory.read s.cart.prg (prgOffset s a), s) := by
  have ha : (BitVec.ofNat 16 a).toNat = a := Nat.mod_eq_of_lt h'
  rw [memRead_cartridge _ s (by omega), ha, cartRead, if_neg (by omega)]

/-- R397: an offset in bank `k` of `n` banks of `size` bytes lies inside them. -/
theorem bank_offset_lt {size k n x : Nat} (hk : k < n) (hx : x < size) : size * k + x < size * n := by
  calc size * k + x < size * (k + 1) := by rw [Nat.mul_succ]; omega
    _ ≤ size * n := Nat.mul_le_mul_left _ hk

/-- R389: six bits of a bank register. -/
theorem sixBits_toNat (v : Byte) : (v &&& 0x3F#8).toNat = v.toNat % 64 := Nat.and_two_pow_sub_one_eq_mod v.toNat 6

/-- R383: the bank of the 16KB modes. -/
theorem lowNibble_toNat (v : BitVec 5) : (v.extractLsb' 0 4).toNat = v.toNat % 16 := by simp

/-- R383: the program mode of an MMC1 control value by its two bits. -/
theorem mmc1Mode_toNat : ∀ c : BitVec 5,
    (c.extractLsb' 2 2).toNat = 2 * (c.getLsbD 3).toNat + (c.getLsbD 2).toNat := by decide

section
variable {s : State} {a : Nat} (hb : s.cart.prgBanks ≠ 0)
include hb

/-- R397: an offset in the last 16KB bank is not reduced. -/
theorem last_offset_mod {x : Nat} (hx : x < 0x4000) :
    (0x4000 * (s.cart.prgBanks - 1) + x) % (0x4000 * s.cart.prgBanks) = 0x4000 * (s.cart.prgBanks - 1) + x :=
  Nat.mod_eq_of_lt (bank_offset_lt (by omega) hx)

/-- R378, R386: the image in order, a single bank twice. -/
theorem nromPrg_mod :
    nromPrg s.cart.prgBanks a % (0x4000 * s.cart.prgBanks) =
      if s.cart.prgBanks = 1 then a % 0x4000 else a % 0x8000 := by
  unfold nromPrg
  by_cases h : s.cart.prgBanks = 1
  · rw [if_neg (by omega), if_pos h, h]
    omega
  · rw [if_pos (by omega), if_neg h]
    exact Nat.mod_eq_of_lt (by omega)

/-- R383: MMC1 in program mode 3. -/
theorem mmc1Prg_lastFixed {r : Mmc1} (h3 : r.control.getLsbD 3 = true) (h2 : r.control.getLsbD 2 = true) :
    mmc1Prg r s.cart.prgBanks a % (0x4000 * s.cart.prgBanks) =
      if 0xC000 ≤ a then 0x4000 * (s.cart.prgBanks - 1) + a % 0x4000
      else (0x4000 * (r.prgBank.toNat % 16) + a % 0x4000) % (0x4000 * s.cart.prgBanks) := by
  have hm : (r.control.extractLsb' 2 2).toNat = 3 := by rw [mmc1Mode_toNat, h3, h2]; rfl
  rw [mmc1Prg, hm]
  change (if a < 0xC000 then (r.prgBank.extractLsb' 0 4).toNat * 0x4000 + a % 0x4000
    else (s.cart.prgBanks - 1) * 0x4000 + a % 0x4000) % _ = _
  by_cases h : 0xC000 ≤ a
  · rw [if_neg (by omega), if_pos h, Nat.mul_comm, last_offset_mod hb (Nat.mod_lt _ (by decide))]
  · rw [if_pos (by omega), if_neg h, lowNibble_toNat, Nat.mul_comm]

/-- R383: MMC1 in program mode 2. -/
theorem mmc1Prg_firstFixed {r : Mmc1} (h3 : r.control.getLsbD 3 = true) (h2 : r.control.getLsbD 2 = false) :
    mmc1Prg r s.cart.prgBanks a % (0x4000 * s.cart.prgBanks) =
      if 0xC000 ≤ a then (0x4000 * (r.prgBank.toNat % 16) + a % 0x4000) % (0x4000 * s.cart.prgBanks)
      else a % 0x4000 := by
  have hm : (r.control.extractLsb' 2 2).toNat = 2 := by rw [mmc1Mode_toNat, h3, h2]; rfl
  rw [mmc1Prg, hm]
  change (if a < 0xC000 then a % 0x4000 else (r.prgBank.extractLsb' 0 4).toNat * 0x4000 + a % 0x4000) % _ = _
  by_cases h : 0xC000 ≤ a
  · rw [if_neg (by omega), if_pos h, lowNibble_toNat, Nat.mul_comm]
  · rw [if_pos (by omega), if_neg h]
    exact Nat.mod_eq_of_lt (by omega)

omit hb in
/-- R383: MMC1 in program modes 0 and 1, a 32KB bank. -/
theorem mmc1Prg_wide {r : Mmc1} (h3 : r.control.getLsbD 3 = false) :
    mmc1Prg r s.cart.prgBanks a = 0x8000 * (r.prgBank.toNat / 2 % 8) + a % 0x8000 := by
  have hm : (r.control.extractLsb' 2 2).toNat = (r.control.getLsbD 2).toNat := by rw [mmc1Mode_toNat, h3]; simp
  rw [mmc1Prg, hm, field_toNat]
  cases r.control.getLsbD 2
  · exact congrArg (· + a % 0x8000) (Nat.mul_comm _ _)
  · exact congrArg (· + a % 0x8000) (Nat.mul_comm _ _)

/-- R389: MMC3's four windows of 8KB, which in program mode 1 exchange the first and the third. -/
theorem mmc3Prg_mod (r : Mmc3) (ha : a < 0x10000) :
    let size := 0x4000 * s.cart.prgBanks
    let last := 0x4000 * (s.cart.prgBanks - 1)
    let switched := fun k : Nat => (0x2000 * ((r.bank k).toNat % 64) + a % 0x2000) % size
    (mmc3PrgBank r s.cart.prgBanks a * 0x2000 + a % 0x2000) % size =
      if 0xE000 ≤ a then last + 0x2000 + a % 0x2000
      else if 0xA000 ≤ a ∧ a < 0xC000 then switched 7
      else if a < 0xA000 ∧ r.prgMode = true ∨ 0xC000 ≤ a ∧ r.prgMode = false then last + a % 0x2000
      else switched 6 := by
  intro size last switched
  have hlast : ((2 * s.cart.prgBanks - 1) * 0x2000 + a % 0x2000) % size = last + 0x2000 + a % 0x2000 := by
    rw [Nat.mod_eq_of_lt (by omega)]
    omega
  have hsecond : ((2 * s.cart.prgBanks - 1 - 1) * 0x2000 + a % 0x2000) % size = last + a % 0x2000 := by
    rw [Nat.mod_eq_of_lt (by omega)]
    omega
  have hswitched : ∀ k, ((r.bank k &&& 0x3F#8).toNat * 0x2000 + a % 0x2000) % size = switched k := fun k => by
    rw [sixBits_toNat, Nat.mul_comm]
  unfold mmc3PrgBank
  dsimp only
  by_cases hE : 0xE000 ≤ a
  · rw [if_pos hE, if_neg (show ¬ a < 0xA000 by omega), if_neg (show ¬ a < 0xC000 by omega),
      if_neg (show ¬ a < 0xE000 by omega)]
    exact hlast
  rw [if_neg hE]
  by_cases hA : a < 0xA000
  · rw [if_pos hA, if_neg (show ¬ (0xA000 ≤ a ∧ a < 0xC000) by omega)]
    cases r.prgMode
    · rw [if_neg Bool.false_ne_true, if_neg (by simp; omega)]
      exact hswitched 6
    · rw [if_pos rfl, if_pos (.inl ⟨hA, rfl⟩)]
      exact hsecond
  rw [if_neg hA]
  by_cases hC : a < 0xC000
  · rw [if_pos hC, if_pos ⟨by omega, hC⟩]
    exact hswitched 7
  rw [if_neg hC, if_pos (show a < 0xE000 by omega), if_neg (show ¬ (0xA000 ≤ a ∧ a < 0xC000) by omega)]
  cases r.prgMode
  · rw [if_neg Bool.false_ne_true, if_pos (.inr ⟨by omega, rfl⟩)]
    exact hsecond
  · rw [if_pos rfl, if_neg (by simp; omega)]
    exact hswitched 6

end

/-- Settles O50: the read of the image, then the windows mapper by mapper. -/
theorem fixedWindows : Obligations.FixedWindows := by
  intro s a hb h h' size last
  have hoff : ∀ {m}, s.mapper = m → prgOffset s a = mapPrg m s.cart.prgBanks a % size := fun e => by
    rw [prgOffset, e]
  refine ⟨memRead_program s h h', Nat.mod_lt _ (by omega), ?_, fun sel e => ?_, fun c p e => ?_, fun r e => ?_,
    fun r e => ?_⟩
  · rintro (e | ⟨sel, e⟩)
    · rw [hoff e]
      exact nromPrg_mod hb
    · rw [hoff e]
      exact nromPrg_mod hb
  · rw [hoff e, mapPrg]
    by_cases hC : 0xC000 ≤ a
    · rw [if_neg (by omega), if_pos hC, Nat.mul_comm, last_offset_mod hb (Nat.mod_lt _ (by decide))]
    · rw [if_pos (by omega), if_neg hC, Nat.mul_comm]
  · rw [hoff e, mapPrg, Nat.mul_comm]
  · rw [hoff e, mapPrg]
    refine ⟨fun h3 h2 => mmc1Prg_lastFixed hb h3 h2, fun h3 h2 => mmc1Prg_firstFixed hb h3 h2, fun h3 => ?_⟩
    rw [mmc1Prg_wide h3]
  · rw [hoff e, mapPrg]
    exact mmc3Prg_mod hb r h'

end Sys2Proof.Machine
end

section
/-! SUPPORT. The character windows and MMC3's counter (49_mappers_cartridge.md R373, R375, R384 to R395): a pattern read, the
windows of each mapper as numbers, MMC3's register map, and the countdown of its counter; then the statements. -/

namespace Sys2Proof.Machine

/-! Characters. -/

/-- R65, R375: a PPU read below 0x2000. -/
theorem ppuRead_pattern (s : State) {a : Nat} (h : a < 0x2000) : ppuRead s a = cartPpuRead s a := by
  unfold ppuRead
  dsimp only
  rw [Nat.mod_eq_of_lt (by omega), if_pos h]

/-- R384: the 8KB bank whose bit 0 is ignored. -/
theorem evenBank_toNat : ∀ v : BitVec 5, (v &&& 0x1E#5).toNat = 2 * (v.toNat / 2) := by decide

/-- R390: an even bank and the odd one above it. -/
theorem pairBank_toNat (v : Byte) : (v &&& 0xFE#8).toNat = 2 * (v.toNat / 2) ∧
    (v ||| 0x01#8).toNat = 2 * (v.toNat / 2) + 1 := by
  revert v
  decide +kernel

/-- R384: MMC1's two 4KB banks. -/
theorem mmc1Chr_split {r : Mmc1} (a : Nat) (h : r.control.getLsbD 4 = true) :
    mmc1Chr r a = 0x1000 * (if a < 0x1000 then r.chrBank0 else r.chrBank1).toNat + a % 0x1000 := by
  rw [mmc1Chr, if_pos h]
  split
  · rw [Nat.mul_comm]
  · rw [Nat.mul_comm]

/-- R384: MMC1's 8KB bank. -/
theorem mmc1Chr_whole {r : Mmc1} {a : Nat} (ha : a < 0x2000) (h : r.control.getLsbD 4 = false) :
    mmc1Chr r a = 0x2000 * (r.chrBank0.toNat / 2) + a := by
  rw [mmc1Chr, if_neg (h ▸ Bool.false_ne_true), evenBank_toNat]
  omega

/-- R390: MMC3's window `w` of 1KB without inversion: a pair of banks below, single banks above. -/
theorem mmc3ChrWindow_toNat (r : Mmc3) {w : Nat} (hw : w < 8) :
    (mmc3ChrWindow r w).toNat =
      if w < 4 then 2 * ((r.bank (w / 2)).toNat / 2) + w % 2 else (r.bank (2 + (w - 4))).toNat := by
  have he := fun k => (pairBank_toNat (r.bank k)).1
  have ho := fun k => (pairBank_toNat (r.bank k)).2
  interval_cases w
  · exact he 0
  · exact ho 0
  · exact he 1
  · exact ho 1
  all_goals rfl

/-- R390: the character offset by its window. -/
theorem mapChr_mmc3 (r : Mmc3) (a : Nat) :
    mapChr (.mmc3 r) a =
      0x400 * (mmc3ChrWindow r (if r.chrInv then (a / 0x400 % 8 + 4) % 8 else a / 0x400 % 8)).toNat + a % 0x400 :=
  congrArg (· + a % 0x400) (Nat.mul_comm _ _)

theorem mapChr_mmc3_plain (r : Mmc3) (a : Nat) :
    mapChr (.mmc3 { r with chrInv := false }) a = 0x400 * (mmc3ChrWindow r (a / 0x400 % 8)).toNat + a % 0x400 :=
  mapChr_mmc3 { r with chrInv := false } a

theorem mapChr_mmc3_inverted (r : Mmc3) (a : Nat) :
    mapChr (.mmc3 { r with chrInv := true }) a =
      0x400 * (mmc3ChrWindow r ((a / 0x400 % 8 + 4) % 8)).toNat + a % 0x400 :=
  mapChr_mmc3 { r with chrInv := true } a

/-- Settles O51: the pattern read, and the windows mapper by mapper. -/
theorem mmc3CharactersStatement : Obligations.Mmc3Characters := by
  refine ⟨fun s a h => ppuRead_pattern s h, fun a ha => ?_, fun r a ha => ⟨?_, fun h => ?_, fun h => ?_⟩⟩
  · exact ⟨rfl, fun _ => rfl, fun q => congrArg (· + a) (Nat.mul_comm _ _), fun q _ => congrArg (· + a) (Nat.mul_comm _ _),
      fun r => ⟨mmc1Chr_split a, mmc1Chr_whole ha⟩⟩
  · have hw : (a + 0x1000) % 0x2000 / 0x400 % 8 = (a / 0x400 % 8 + 4) % 8 := by omega
    have hx : (a + 0x1000) % 0x2000 % 0x400 = a % 0x400 := by omega
    rw [mapChr_mmc3_inverted, mapChr_mmc3_plain, hw, hx]
  · rw [mapChr_mmc3_plain, mmc3ChrWindow_toNat r (Nat.mod_lt _ (by decide)), if_pos (by omega),
      show a / 0x400 % 8 / 2 = a / 0x800 by omega, show a / 0x400 % 8 % 2 = a / 0x400 % 2 by omega]
  · rw [mapChr_mmc3_plain, mmc3ChrWindow_toNat r (Nat.mod_lt _ (by decide)), if_neg (by omega),
      show a / 0x400 % 8 - 4 = (a - 0x1000) / 0x400 by omega]

/-! MMC3's registers (R387 to R393). -/

/-- R387: the bank register that the target selects. -/
theorem Mmc3.bank_set (r : Mmc3) (d : Byte) {j : Nat} (hj : j < r.reg.length) :
    ({ r with reg := r.reg.set r.target.toNat d } : Mmc3).bank j = if j = r.target.toNat then d else r.bank j := by
  unfold Mmc3.bank
  by_cases h : j = r.target.toNat
  · subst h
    simp [hj]
  · simp [h, Ne.symm h]

/-- R387, R388: the bank select and bank data pair. -/
theorem mmc3Write_bank {e : Bool} {r : Mmc3} {mir : Mirror} {n : Nat} {d : Byte} (h : n < 0xA000) :
    mmc3Write e r mir n d =
      (if n % 2 = 0 then { r with target := BitVec.ofNat 3 d.toNat, prgMode := d.getLsbD 6, chrInv := d.getLsbD 7 }
      else { r with reg := r.reg.set r.target.toNat d }, mir) := by
  have ht : d.extractLsb' 0 3 = BitVec.ofNat 3 d.toNat := by
    rw [field_eq_ofNat, pow_zero, Nat.div_one]
  unfold mmc3Write
  rw [if_pos h, ht]
  by_cases he : n % 2 = 0
  · simp [he]
  · simp [he]

/-- R391: the mirroring register. -/
theorem mmc3Write_mirroring {e : Bool} {r : Mmc3} {mir : Mirror} {n : Nat} {d : Byte} (h : 0xA000 ≤ n) (h' : n < 0xC000) :
    mmc3Write e r mir n d =
      (if n % 2 = 0 then { r with mirror := d.getLsbD 0 } else r,
        if n % 2 = 0 then (if d.getLsbD 0 then .horizontal else .vertical) else mir) := by
  unfold mmc3Write
  rw [if_neg (by omega), if_pos h']
  by_cases he : n % 2 = 0
  · simp [he]
  · simp [he]

/-- R392: the latch and the reload of the counter. -/
theorem mmc3Write_latch {e : Bool} {r : Mmc3} {mir : Mirror} {n : Nat} {d : Byte} (h : 0xC000 ≤ n) (h' : n < 0xE000) :
    mmc3Write e r mir n d =
      (if n % 2 = 0 then { r with irqLatch := d } else { r with irqCounter := 0x00#8 }, mir) := by
  unfold mmc3Write
  rw [if_neg (by omega), if_neg (by omega), if_pos h']
  by_cases he : n % 2 = 0
  · simp [he]
  · simp [he]

/-- R393: the interrupt's disabling and enabling address. -/
theorem mmc3Write_enable {e : Bool} {r : Mmc3} {mir : Mirror} {n : Nat} {d : Byte} (h : 0xE000 ≤ n) :
    mmc3Write e r mir n d =
      (if (n % 2 = 0 ↔ e = true) then { r with irqEnable := false, irqActive := false }
      else { r with irqEnable := true }, mir) := by
  unfold mmc3Write
  rw [if_neg (by omega), if_neg (by omega), if_neg (by omega)]
  cases e
  · by_cases he : n % 2 = 0
    · simp [he, Mmc3.enable]
    · simp [he, Mmc3.disable]
  · by_cases he : n % 2 = 0
    · simp [he, Mmc3.disable]
    · simp [he, Mmc3.enable]

/-- R387 to R393: a CPU write to MMC3. -/
theorem memWrite_mmc3 {s : State} {r : Mmc3} {a : Word} (d : Byte) (e : s.mapper = .mmc3 r) (h : 0x8000 ≤ a.toNat) :
    memWrite a d s = (s.setMapper (.mmc3 (mmc3Write s.params.mmc3EvenDisables r s.mirror a.toNat d).1)).setMirror
      (mmc3Write s.params.mmc3EvenDisables r s.mirror a.toNat d).2 := by
  rw [memWrite_register d s h, regWrite, e]

/-! MMC3's counter (R394). -/

/-- R394: a tick from zero reloads the latch. -/
theorem Mmc3.tick_zero {r : Mmc3} (h : r.irqCounter = 0x00#8) :
    r.tick = { r with irqCounter := r.irqLatch, irqActive := r.irqActive || (r.irqLatch == 0x00#8 && r.irqEnable) } := by
  rw [Mmc3.tick, if_pos h]

/-- R394: a tick above zero counts down. -/
theorem Mmc3.tick_pos {r : Mmc3} (h : r.irqCounter ≠ 0x00#8) :
    r.tick = { r with
      irqCounter := r.irqCounter - 1#8
      irqActive := r.irqActive || (r.irqCounter - 1#8 == 0x00#8 && r.irqEnable) } := by
  rw [Mmc3.tick, if_neg h]

/-- R394: `n + 1` ticks from zero, as long as the latch lasts: the counter is at the latch less `n`, and the request is
raised only where it is at zero. -/
theorem Mmc3.tick_iterate_succ {r : Mmc3} (h : r.irqCounter = 0x00#8) (ha : r.irqActive = false) {n : Nat}
    (hn : n ≤ r.irqLatch.toNat) :
    Mmc3.tick^[n + 1] r = { r with
      irqCounter := r.irqLatch - BitVec.ofNat 8 n
      irqActive := r.irqLatch - BitVec.ofNat 8 n == 0x00#8 && r.irqEnable } := by
  induction n with
  | zero =>
    rw [Function.iterate_one, Mmc3.tick_zero h, ha, Bool.false_or]
    simp
  | succ n ih =>
    have hb := r.irqLatch.isLt
    have hne : r.irqLatch - BitVec.ofNat 8 n ≠ 0x00#8 := by bv_omega
    have hpred : r.irqLatch - BitVec.ofNat 8 n - 1#8 = r.irqLatch - BitVec.ofNat 8 (n + 1) := by bv_omega
    rw [Function.iterate_succ_apply', ih (by omega), Mmc3.tick_pos hne]
    simp [hpred, hne]

/-- R393: with the interrupt disabled no tick raises a request. -/
theorem Mmc3.tick_iterate_disabled {r : Mmc3} (he : r.irqEnable = false) (ha : r.irqActive = false) (n : Nat) :
    (Mmc3.tick^[n] r).irqEnable = false ∧ (Mmc3.tick^[n] r).irqActive = false := by
  induction n with
  | zero => exact ⟨he, ha⟩
  | succ n ih =>
    obtain ⟨ihe, iha⟩ := ih
    rw [Function.iterate_succ_apply']
    refine ⟨ihe, ?_⟩
    rw [Mmc3.tick, iha, ihe]
    exact Bool.and_false _

/-- Settles O52: the register map range by range; the counter's ticks from zero up to the latch and one more. -/
theorem mmc3Counter : Obligations.Mmc3Counter := by
  refine ⟨fun s r a d e h => ?_, fun r h ha => ⟨fun n hn => ?_, ?_, ?_, fun he n => ?_⟩⟩
  · intro n even mirroring
    rw [memWrite_mmc3 d e h]
    refine ⟨(mmc3Write s.params.mmc3EvenDisables r s.mirror n d).1, ?_, fun hA he => ?_, fun hA he => ?_, fun hA hC => ?_,
      fun hC hE => ?_, fun hE => ?_⟩
    · congr 1
      by_cases hA : 0xA000 ≤ n ∧ n < 0xC000
      · rw [mmc3Write_mirroring hA.1 hA.2]
        exact if_congr ⟨fun he => ⟨hA.1, hA.2, he⟩, fun hm => hm.2.2⟩ rfl rfl
      · rw [if_neg fun hm => hA ⟨hm.1, hm.2.1⟩]
        by_cases hl : n < 0xA000
        · rw [mmc3Write_bank hl]
        · by_cases hE : n < 0xE000
          · rw [mmc3Write_latch (by omega) hE]
          · rw [mmc3Write_enable (by omega)]
    · rw [mmc3Write_bank hA]
      exact if_pos he
    · rw [mmc3Write_bank hA, if_neg he]
      exact ⟨rfl, List.length_set, fun j hj => Mmc3.bank_set r d hj⟩
    · rw [mmc3Write_mirroring hA hC]
    · rw [mmc3Write_latch hC hE]
    · rw [mmc3Write_enable hE]
  · cases n with
    | zero => exact ha
    | succ n =>
      have hne : r.irqLatch - BitVec.ofNat 8 n ≠ 0x00#8 := by bv_omega
      change (Mmc3.tick^[n + 1] r).irqActive = false
      rw [Mmc3.tick_iterate_succ h ha (by omega)]
      simp [hne]
  · change (Mmc3.tick^[_] r).irqActive = _
    rw [Mmc3.tick_iterate_succ h ha (Nat.le_refl _)]
    simp
  · change (Mmc3.tick^[_] r).irqCounter = _
    rw [Mmc3.tick_iterate_succ h ha (Nat.le_refl _)]
    simp
  · exact (Mmc3.tick_iterate_disabled he ha n).2

end Sys2Proof.Machine
end

section
/-! SUPPORT. What no Bus step changes, and the host's moves (20_memory.md R56, 46_bus_dma_controller.md R249, 49_mappers_cartridge.md
R374, R398, R399): the frame of a Bus step, the moves and the step with another queue of waiting moves, the image loader, and
restores; then the statement. -/

namespace Sys2Proof.Machine

/-! The frame of a Bus step (R56, R374). -/

/-- What only the host changes: the configuration, its waiting moves, the saved states and the button masks. -/
structure HostView where
  cart : Cartridge
  params : Params
  queue : List (List HostMove)
  saves : List Block
  buttons1 : Byte
  buttons2 : Byte

def State.hostView (s : State) : HostView :=
  ⟨s.cart, s.params, s.hostQueue, s.saves, s.pads.buttons1, s.pads.buttons2⟩

@[simp] theorem setPpu_hostView (s : State) (p : Ppu) : (s.setPpu p).hostView = s.hostView := rfl

theorem portRead_hostView (s : State) (k : Nat) : (portRead s k).2.hostView = s.hostView := by
  rw [portRead_frame]
  rfl

/-- R243, R244: of these a Bus read comes near the masks alone, and moves only the controllers' latches. -/
theorem memRead_hostView (a : Word) (s : State) : (memRead a s).2.hostView = s.hostView := by
  unfold memRead
  dsimp only
  repeat' split
  case isFalse.isTrue => exact portRead_hostView s _
  all_goals rfl

theorem strobeWrite_hostView (s : State) (v : Byte) : (s.setPads (strobeWrite s.pads v)).hostView = s.hostView := by
  unfold strobeWrite
  split
  · rfl
  · rfl

theorem portWrite_hostView (s : State) (k : Nat) (v : Byte) : (portWrite s k v).hostView = s.hostView := by
  unfold portWrite dataWrite ppuWrite cartPpuWrite
  dsimp only
  repeat' split
  all_goals rfl

theorem regWrite_hostView (s : State) (a : Nat) (v : Byte) : (regWrite s a v).hostView = s.hostView := by
  unfold regWrite
  split
  all_goals rfl

theorem memWrite_hostView (a : Word) (v : Byte) (s : State) : (memWrite a v s).hostView = s.hostView := by
  unfold memWrite cartWrite
  dsimp only
  repeat' split
  all_goals first
    | rfl
    | exact portWrite_hostView s _ v
    | exact regWrite_hostView s _ v
    | exact strobeWrite_hostView s v

theorem ppuClock_hostView (s : State) : (ppuClock s).hostView = s.hostView := by
  rw [ppuClock_frame]
  rfl

theorem dmaSlot_hostView (s : State) : (dmaSlot s).hostView = s.hostView := by
  unfold dmaSlot
  split
  · split
    · rfl
    · rfl
  · split
    · exact memRead_hostView _ s
    · rfl

/-- No part of a Bus step changes what the host alone changes. -/
theorem hostView_closed (v : HostView) : StepClosed fun s => s.hostView = v where
  read := fun a h => (memRead_hostView a _).trans h
  write := fun a b h => (memWrite_hostView a b _).trans h
  cpu := fun _ _ h => h
  stop := fun _ h => h
  ppu := fun h => (ppuClock_hostView _).trans h
  transfer := fun _ h => (dmaSlot_hostView _).trans h
  nmi := fun h => h
  irq := fun h => h
  clk := fun _ h => h

theorem step_hostView {s t : State} (hq : s.hostQueue = []) (h : step s = .next t) : t.hostView = s.hostView := by
  unfold step guardedStep at h
  rw [takeHost_idle hq] at h
  split at h
  · cases h
  · exact (hostView_closed s.hostView).busStep rfl t h

/-! The moves before a Bus step, with another queue of those that wait. -/

theorem initCartridge_setHostQueue (s : State) (q : List (List HostMove)) :
    initCartridge (s.setHostQueue q) = (initCartridge s).setHostQueue q := rfl

theorem initPads_setHostQueue (s : State) (q : List (List HostMove)) :
    initPads (s.setHostQueue q) = (initPads s).setHostQueue q := rfl

theorem initPpu_setHostQueue (s : State) (q : List (List HostMove)) :
    initPpu (s.setHostQueue q) = (initPpu s).setHostQueue q := rfl

theorem initBus_setHostQueue (s : State) (q : List (List HostMove)) :
    initBus (s.setHostQueue q) = (initBus s).setHostQueue q := rfl

theorem initCpu_setHostQueue (s : State) (q : List (List HostMove)) :
    initCpu (s.setHostQueue q) = (initCpu s).setHostQueue q := by
  rw [initCpu_eq, initCpu_eq, memRead16_setHostQueue]
  rfl

theorem initMemories_setHostQueue (s : State) (q : List (List HostMove)) :
    initMemories (s.setHostQueue q) = (initMemories s).setHostQueue q := rfl

theorem warmReset_setHostQueue (s : State) (q : List (List HostMove)) :
    warmReset (s.setHostQueue q) = (warmReset s).setHostQueue q := by
  rw [warmReset_eq, warmReset_eq, initCartridge_setHostQueue, initPads_setHostQueue, initPpu_setHostQueue,
    initBus_setHostQueue, initCpu_setHostQueue]

theorem powerOn_setHostQueue (c : Cartridge) (s : State) (q : List (List HostMove)) :
    powerOn c (s.setHostQueue q) = (powerOn c s).setHostQueue q := by
  rw [powerOn, powerOn, ← warmReset_setHostQueue, ← initMemories_setHostQueue]
  rfl

theorem applyMove_setHostQueue (s : State) (m : HostMove) (q : List (List HostMove)) :
    applyMove (s.setHostQueue q) m = (applyMove s m).setHostQueue q := by
  cases m
  case buttons | clearFrameComplete | save => rfl
  case reset => exact warmReset_setHostQueue s q
  case load image =>
    simp only [applyMove]
    split
    · exact powerOn_setHostQueue _ s q
    · rfl
  case restore k =>
    simp only [applyMove, State.setHostQueue_saves]
    split
    · exact applyIf_setHostQueue rfl
    · rfl

theorem bindOut_setHostQueue {o : Out} {f : State → Out} {q : List (List HostMove)}
    (hf : ∀ t, f (t.setHostQueue q) = mapOut (fun t => t.setHostQueue q) (f t)) :
    bindOut (mapOut (fun t => t.setHostQueue q) o) f = mapOut (fun t => t.setHostQueue q) (bindOut o f) := by
  cases o
  case next t => exact hf t
  all_goals rfl

theorem countCycle_setHostQueue (s : State) (q : List (List HostMove)) :
    countCycle (s.setHostQueue q) = (countCycle s).setHostQueue q := andThen_setHostQueue rfl

theorem runInstr_setHostQueue (s : State) (q : List (List HostMove)) :
    runInstr (s.setHostQueue q) = mapOut (fun t => t.setHostQueue q) (runInstr s) := by
  unfold runInstr fetch
  rw [fetchInstrBytes_setHostQueue]
  exact exec_setHostQueue _ _ q

theorem slot_setHostQueue (s : State) (q : List (List HostMove)) :
    slot (s.setHostQueue q) = mapOut (fun t => t.setHostQueue q) (slot s) := by
  unfold slot cpuClock
  rw [State.setHostQueue_dma, State.setHostQueue_cpu, dmaSlot_setHostQueue, countCycle_setHostQueue, runInstr_setHostQueue,
    bindOut_setHostQueue fun t => by rw [countCycle_setHostQueue]; rfl]
  split
  · rfl
  · split
    · rfl
    · rfl

/-- R230: the Bus step does not look at the queue. -/
theorem busStep_setHostQueue (s : State) (q : List (List HostMove)) :
    busStep (s.setHostQueue q) = mapOut (fun t => t.setHostQueue q) (busStep s) := by
  unfold busStep
  rw [State.setHostQueue_fatal]
  split
  · rfl
  · rw [ppuClock_setHostQueue]
    dsimp only
    rw [State.setHostQueue_clk, slot_setHostQueue, ← bindOut_setHostQueue fun t => by rw [endStep_setHostQueue]; rfl]
    split
    · rfl
    · rfl

theorem guardedStep_setHostQueue (s : State) (q : List (List HostMove)) :
    guardedStep (s.setHostQueue q) = mapOut (fun t => t.setHostQueue q) (guardedStep s) := by
  unfold guardedStep
  rw [State.setHostQueue_cart]
  split
  · rfl
  · exact busStep_setHostQueue s q

/-- R249: the first of the moves that wait, made at once. -/
theorem takeHost_cons {s : State} {m : HostMove} {ms : List HostMove} {rest : List (List HostMove)}
    (h : s.hostQueue = (m :: ms) :: rest) :
    takeHost s = takeHost ((applyMove (s.setHostQueue []) m).setHostQueue (ms :: rest)) := by
  unfold takeHost
  rw [h, applyMove_setHostQueue]
  dsimp only [State.setHostQueue_hostQueue]
  rw [List.foldl_cons, applyMove_setHostQueue]
  rfl

theorem step_noMoves {s : State} {rest : List (List HostMove)} (h : s.hostQueue = [] :: rest) :
    step s = mapOut (fun t => t.setHostQueue rest) (step (s.setHostQueue [])) := by
  have ht : takeHost s = (s.setHostQueue []).setHostQueue rest := by
    unfold takeHost
    rw [h]
    rfl
  unfold step
  rw [ht, guardedStep_setHostQueue, takeHost_idle (s := s.setHostQueue []) rfl]

/-! The image loader (R398, R399). -/

/-- R398: the mapper number as a number. -/
theorem headerMapper_eq (flags6 flags7 : Byte) :
    headerMapper flags6 flags7 = 16 * (flags7.toNat / 16) + flags6.toNat / 16 := by
  have h : (flags7 &&& 0xF0#8) ||| (flags6 >>> 4) = flags7.extractLsb' 4 4 ++ flags6.extractLsb' 4 4 := by
    apply BitVec.eq_of_getLsbD_eq
    intro i hi
    rw [BitVec.getLsbD_append]
    interval_cases i <;> simp
  have h6 := flags6.isLt
  have h7 := flags7.isLt
  have hlt := (flags6.extractLsb' 4 4).isLt
  rw [headerMapper, h, BitVec.toNat_append, ← Nat.shiftLeft_add_eq_or_of_lt hlt, Nat.shiftLeft_eq, field_toNat, field_toNat]
  omega

/-- R376: the number of a variant. -/
def mapperNumber : MapperId → Nat
  | .nrom => 0 | .mmc1 => 1 | .uxrom => 2 | .cnrom => 3 | .mmc3 => 4 | .gxrom => 66

theorem mapperOfNumber_eq_some {n : Nat} {id : MapperId} (h : mapperOfNumber n = some id) : mapperNumber id = n := by
  unfold mapperOfNumber at h
  split at h
  all_goals cases h
  all_goals rfl

theorem mapperOfNumber_eq_none {n : Nat} (h : mapperOfNumber n = none) : n ∉ [0, 1, 2, 3, 4, 66] := by
  intro hn
  simp only [List.mem_cons, List.not_mem_nil, or_false] at hn
  rcases hn with rfl | rfl | rfl | rfl | rfl | rfl <;> cases h

theorem mapperNumber_mem (id : MapperId) : mapperNumber id ∈ [0, 1, 2, 3, 4, 66] := by cases id <;> decide

/-- The bits of a flag byte as numbers. -/
theorem flag_iff (v : Byte) (k : Nat) : v.getLsbD k = true ↔ v.toNat / 2 ^ k % 2 = 1 := by
  rw [BitVec.getLsbD, Nat.testBit_eq_decide_div_mod_eq, decide_eq_true_iff]

/-- R398: a byte of an image from `a` on, written as a memory. -/
theorem read_ofBytes_image (image : List Byte) (a n : Nat) {k : Nat} (hk : k < n) :
    Memory.read (Memory.ofBytes 0 ((image.drop a).take n)) k = image.getD (a + k) 0x00#8 := by
  rw [Memory.read_ofBytes, if_pos (Nat.zero_le k), Nat.sub_zero, List.getD_eq_getElem?_getD, List.getElem?_take_of_lt hk,
    List.getElem?_drop, ← List.getD_eq_getElem?_getD]
  rfl

/-- Byte `k` of an image as a number. -/
def imageByte (image : List Byte) (k : Nat) : Nat := (image.getD k 0x00#8).toNat

/-- R398: the mapper number in the header. -/
def imageMapper (image : List Byte) : Nat := 16 * (imageByte image 7 / 16) + imageByte image 6 / 16

/-- R399: the images that yield a machine. -/
def imageAccepted (image : List Byte) : Prop :=
  image.take 4 = [0x4E#8, 0x45#8, 0x53#8, 0x1A#8] ∧ imageMapper image ∈ [0, 1, 2, 3, 4, 66] ∧ imageByte image 4 ≠ 0 ∧
  imageByte image 6 / 4 % 2 = 0 ∧ 16 + 0x4000 * imageByte image 4 + 0x2000 * imageByte image 5 ≤ image.length

/-- R398: what an accepted image's cartridge is. -/
def imageCartridge (image : List Byte) (id : MapperId) : Cartridge where
  prgBanks := imageByte image 4
  chrBanks := imageByte image 5
  prg := Memory.ofBytes 0 ((image.drop 16).take (0x4000 * imageByte image 4))
  chr := Memory.ofBytes 0 (((image.drop 16).drop (0x4000 * imageByte image 4)).take (0x2000 * imageByte image 5))
  mapperId := id
  headerMirror := if (image.getD 6 0x00#8).getLsbD 0 then .vertical else .horizontal

theorem headerMapper_image (image : List Byte) :
    headerMapper (image.getD 6 0x00#8) (image.getD 7 0x00#8) = imageMapper image := headerMapper_eq _ _

theorem trainer_iff (image : List Byte) : (image.getD 6 0x00#8).getLsbD 2 = true ↔ imageByte image 6 / 4 % 2 = 1 :=
  flag_iff _ 2

/-- R399: an accepted image is loaded. -/
theorem loadImage_of_accepted {image : List Byte} (h : imageAccepted image) :
    ∃ id, mapperNumber id = imageMapper image ∧ loadImage image = .ok (imageCartridge image id) := by
  obtain ⟨hsig, hmap, hprg, htrainer, hlen⟩ := h
  cases hid : mapperOfNumber (imageMapper image) with
  | none => exact absurd hmap (mapperOfNumber_eq_none hid)
  | some id =>
    refine ⟨id, mapperOfNumber_eq_some hid, ?_⟩
    have ht : ¬ (image.getD 6 0x00#8).getLsbD 2 = true := fun e => by
      have := (trainer_iff image).1 e
      omega
    have hbody : ¬ (image.drop 16).length < 0x4000 * imageByte image 4 + 0x2000 * imageByte image 5 := by
      rw [List.length_drop]
      omega
    rw [loadImage, if_pos hsig, if_neg (by omega), loadBody, headerMapper_image, hid]
    exact (if_neg hprg).trans ((if_neg ht).trans (if_neg hbody))

/-- R399: an image that is loaded is an accepted one. -/
theorem imageAccepted_of_loadImage {image : List Byte} {c : Cartridge} (h : loadImage image = .ok c) :
    imageAccepted image := by
  unfold loadImage at h
  split at h
  case isFalse => cases h
  case isTrue hsig =>
  split at h
  case isTrue => cases h
  case isFalse hheader =>
  unfold loadBody at h
  rw [headerMapper_image] at h
  split at h
  case h_1 => cases h
  case h_2 id hid =>
  split at h
  case isTrue => cases h
  case isFalse hprg =>
  split at h
  case isTrue => cases h
  case isFalse htrainer =>
  split at h
  case isTrue => cases h
  case isFalse hbody =>
  rw [trainer_iff] at htrainer
  rw [List.length_drop] at hbody
  refine ⟨hsig, mapperOfNumber_eq_some hid ▸ mapperNumber_mem id, hprg, by omega, ?_⟩
  change 16 + 0x4000 * (image.getD 4 0x00#8).toNat + 0x2000 * (image.getD 5 0x00#8).toNat ≤ _
  omega

theorem applyMove_load_ok {s : State} {image : List Byte} {c : Cartridge} (h : loadImage image = .ok c) :
    applyMove s (.load image) = powerOn c s := by
  simp only [applyMove, h]

/-- R399: a refused load changes nothing. -/
theorem applyMove_load_refused {s : State} {image : List Byte} (h : ¬ imageAccepted image) :
    applyMove s (.load image) = s := by
  cases e : loadImage image with
  | ok c => exact absurd (imageAccepted_of_loadImage e) h
  | error r => simp only [applyMove, e]

/-! Moves and the fatal status (10_state.md R17, 60_exceptions.md R441). -/

theorem warmReset_fatal (s : State) : (warmReset s).fatal = none := by
  rw [warmReset_vector]
  rfl

theorem restoreBlock_fatal (b : Block) (s : State) : (restoreBlock b s).fatal = b.fatal := rfl

/-- Unless the parameter lets a restore do it, only a reset or a load changes the fatal status, and clears it. -/
theorem applyMove_fatal {s : State} {m : HostMove} (hp : s.params.restoresFatal = false)
    (h : (applyMove s m).fatal ≠ s.fatal) : (applyMove s m).fatal = none ∧ (m = .reset ∨ ∃ image, m = .load image) := by
  cases m
  case buttons | clearFrameComplete | save => exact absurd rfl h
  case reset => exact ⟨warmReset_fatal s, .inl rfl⟩
  case load image =>
    refine ⟨?_, .inr ⟨image, rfl⟩⟩
    cases e : loadImage image with
    | ok c =>
      rw [applyMove_load_ok e]
      exact warmReset_fatal _
    | error r => exact absurd (by simp only [applyMove, e]) h
  case restore k =>
    refine absurd ?_ h
    cases e : s.saves[k]? with
    | none => rw [applyMove_restore_none (List.getElem?_eq_none_iff.1 e)]
    | some b =>
      rw [applyMove_restore e]
      split
      · rename_i hr
        rw [restoreBlock_fatal]
        exact ((restorable_iff b s).1 hr).resolve_left (hp ▸ Bool.false_ne_true)
      · rfl

theorem applyMove_restore_eq {s : State} {k : Nat} {b : Block} (h : s.saves[k]? = some b) :
    applyMove s (.restore k) =
      if s.params.restoresFatal = true ∨ b.fatal = s.fatal then restoreBlock b s else s := by
  rw [applyMove_restore h]
  exact if_congr (restorable_iff b s) rfl rfl

/-- Settles O9: the frame of a Bus step, then the host's moves one by one. -/
theorem cartridgeFixed : Obligations.CartridgeFixed := by
  refine ⟨fun s t hq h => ?_, fun s m ms rest h => ?_, fun s rest h => ?_, fun s b1 b2 => ⟨rfl, rfl, rfl, rfl⟩,
    fun s image => ⟨fun h => ?_, fun h => applyMove_load_refused h⟩, fun s k b h => applyMove_restore_eq h,
    fun s m hp h => applyMove_fatal hp h, fun s t hs hf => ?_, fun s k h => applyMove_restore_none h⟩
  · have hv := step_hostView hq h
    exact ⟨congrArg HostView.cart hv, congrArg HostView.params hv, (congrArg HostView.queue hv).trans hq,
      congrArg HostView.saves hv, congrArg HostView.buttons1 hv, congrArg HostView.buttons2 hv⟩
  · exact congrArg guardedStep (takeHost_cons h)
  · exact step_noMoves h
  · obtain ⟨id, hid, hload⟩ := loadImage_of_accepted h
    refine ⟨imageCartridge image id, applyMove_load_ok hload, rfl, rfl, ?_, ?_, fun k hk => ?_, fun k hk => ?_⟩
    · exact hid
    · exact if_congr ((flag_iff _ 0).trans (by simp)) rfl rfl
    · exact congrArg BitVec.toNat (read_ofBytes_image image 16 _ hk)
    · refine congrArg BitVec.toNat ?_
      rw [imageCartridge, List.drop_drop]
      exact read_ofBytes_image image _ _ hk
  · rw [applyMove_restore_eq (b := s.toBlock) (by rw [hs]; rfl)]
    exact if_pos hf

end Sys2Proof.Machine
end

section
/-! SUPPORT. The parts of a PPU cycle (48_ppu_rendering.md R344): the fetch work as what comes before its window action, that
action, and what comes after it; each part as an equation by the position. -/

namespace Sys2Proof.Machine

theorem applyIf_of_true {α : Type} {c : Bool} (h : c = true) (f : α → α) (x : α) : applyIf c f x = f x := by
  rw [h]
  rfl

theorem applyIf_of_false {α : Type} {c : Bool} (h : c = false) (f : α → α) (x : α) : applyIf c f x = x := by
  rw [h]
  rfl

/-! Positions as numbers (R320, R324). -/

theorem Ppu.fetchLine_iff (p : Ppu) : p.fetchLine = true ↔ -1 ≤ p.scanline ∧ p.scanline ≤ 239 := by
  simp [Ppu.fetchLine]

theorem Ppu.at_iff (p : Ppu) (l : Int) (c : Nat) : p.at l c = true ↔ p.scanline = l ∧ p.cycle = c := by
  simp [Ppu.at]

theorem Ppu.at_false {p : Ppu} {l : Int} {c : Nat} (h : ¬ (p.scanline = l ∧ p.cycle = c)) : p.at l c = false :=
  Bool.eq_false_iff.2 fun e => h ((p.at_iff l c).1 e)

theorem Ppu.inWindow_iff (p : Ppu) :
    p.inWindow = true ↔ (2 ≤ p.cycle ∧ p.cycle ≤ 257) ∨ (321 ≤ p.cycle ∧ p.cycle ≤ 337) := by
  simp [Ppu.inWindow]

theorem Ppu.renderingEnabled_iff (p : Ppu) :
    p.renderingEnabled = true ↔ p.mask.getLsbD 3 = true ∨ p.mask.getLsbD 4 = true := by
  simp [Ppu.renderingEnabled, Ppu.renderBg, Ppu.renderSpr]

/-- R322: does the odd-frame skip come? -/
abbrev Ppu.skips (p : Ppu) : Prop :=
  p.scanline = 0 ∧ p.cycle = 0 ∧ p.oddFrame = true ∧ (p.mask.getLsbD 3 = true ∨ p.mask.getLsbD 4 = true)

theorem oddSkip_of_skips {p : Ppu} (h : p.skips) : oddSkip p = { p with cycle := 1 } := by
  obtain ⟨hl, hc, ho, hr⟩ := h
  rw [oddSkip, if_pos]
  rw [(p.at_iff 0 0).2 ⟨hl, hc⟩, ho, p.renderingEnabled_iff.2 hr]
  rfl

theorem oddSkip_of_not_skips {p : Ppu} (h : ¬ p.skips) : oddSkip p = p := by
  rw [oddSkip, if_neg]
  intro e
  simp only [Bool.and_eq_true, Ppu.at_iff, Ppu.renderingEnabled_iff] at e
  obtain ⟨⟨⟨hl, hc⟩, ho⟩, hr⟩ := e
  exact h ⟨hl, hc, ho, hr⟩

/-! The three parts of the fetch work. -/

/-- R322, R323: the skip and the pre-render clear. -/
def headWork (s : State) : State := (s.onPpu oddSkip).onPpu fun p => applyIf (p.at (-1) 1) preRenderClear p

/-- R324: the action of a window cycle after the shifters. -/
def windowWork (s : State) : State := applyIf s.ppu.inWindow (fun s => windowAction (s.onPpu updateShifters)) s

/-- R329, R331, R332, R334: what is done to the PPU at cycles 256, 257 and 280 to 304. -/
def latePpu (p : Ppu) : Ppu :=
  let p := applyIf (p.cycle == 256) incrementScrollY p
  let p := applyIf (p.cycle == 257) (fun p => transferAddressX (loadBackgroundShifters p)) p
  let p := applyIf (p.scanline == -1 && p.cycle ≥ 280 && p.cycle ≤ 304) transferAddressY p
  applyIf (p.cycle == 257 && p.scanline ≥ 0) evaluateSprites p

/-- R335: the same with the pattern load at cycle 340. -/
def lateWork (s : State) : State :=
  let s := s.onPpu latePpu
  applyIf (s.ppu.cycle == 340 && s.ppu.scanline ≥ 0) loadSpritePatterns s

theorem State.onPpu_onPpu (f g : Ppu → Ppu) (s : State) : (s.onPpu f).onPpu g = s.onPpu fun p => g (f p) := rfl

theorem fetchWork_eq (s : State) : fetchWork s = lateWork (windowWork (headWork s)) := by
  simp only [fetchWork, lateWork, windowWork, headWork, State.onPpu_onPpu]
  rfl

/-! Before the window action. -/

theorem headWork_skips {s : State} (h : s.ppu.skips) : headWork s = s.setPpu { s.ppu with cycle := 1 } := by
  have hl : s.ppu.scanline = 0 := h.1
  change (s.setPpu (oddSkip s.ppu)).onPpu _ = _
  rw [oddSkip_of_skips h]
  refine congrArg s.setPpu (applyIf_of_false (Ppu.at_false fun e => ?_) _ _)
  have := e.1.symm.trans hl
  omega

theorem headWork_clears {s : State} (hl : s.ppu.scanline = -1) (hc : s.ppu.cycle = 1) :
    headWork s = s.setPpu (preRenderClear s.ppu) := by
  change (s.setPpu (oddSkip s.ppu)).onPpu _ = _
  rw [oddSkip_of_pos (by omega)]
  exact congrArg s.setPpu (applyIf_of_true ((s.ppu.at_iff _ _).2 ⟨hl, hc⟩) _ _)

theorem headWork_idle {s : State} (hs : ¬ s.ppu.skips) (hc : ¬ (s.ppu.scanline = -1 ∧ s.ppu.cycle = 1)) :
    headWork s = s := by
  change (s.setPpu (oddSkip s.ppu)).onPpu _ = _
  rw [oddSkip_of_not_skips hs]
  exact congrArg s.setPpu (applyIf_of_false (Ppu.at_false hc) _ _)

/-- From cycle 2 on nothing comes before the window action. -/
theorem headWork_of_two_le {s : State} (h : 2 ≤ s.ppu.cycle) : headWork s = s :=
  headWork_idle (fun ⟨_, hc, _⟩ => by omega) (fun ⟨_, hc⟩ => by omega)

/-! The four moves of `vram` (R328, R329, R331, R332). -/

theorem incrementScrollX_eq (p : Ppu) :
    incrementScrollX p = { p with vram := if p.renderingEnabled then nextColumn p.vram else p.vram } := by
  unfold incrementScrollX applyIf
  split <;> rfl

theorem incrementScrollY_eq (p : Ppu) :
    incrementScrollY p = { p with vram := if p.renderingEnabled then nextRow p.vram else p.vram } := by
  unfold incrementScrollY applyIf
  split <;> rfl

theorem transferAddressX_eq (p : Ppu) :
    transferAddressX p = { p with
      vram := if p.renderingEnabled then setCoarseX (setNtX p.vram (ntX p.tram)) (coarseX p.tram) else p.vram } := by
  unfold transferAddressX applyIf
  split <;> rfl

theorem transferAddressY_eq (p : Ppu) :
    transferAddressY p = { p with
      vram := if p.renderingEnabled then setCoarseY (setNtY (setFineY p.vram (fineY p.tram)) (ntY p.tram)) (coarseY p.tram)
        else p.vram } := by
  unfold transferAddressY applyIf
  split <;> rfl

/-! After the window action. -/

section
variable {p : Ppu}

/-- R332: is the position one of the vertical transfer? -/
abbrev Ppu.transfersY (p : Ppu) : Prop := p.scanline = -1 ∧ 280 ≤ p.cycle ∧ p.cycle ≤ 304

theorem Ppu.transfersY_iff (p : Ppu) :
    (p.scanline == -1 && p.cycle ≥ 280 && p.cycle ≤ 304) = true ↔ p.transfersY := by
  simp [Ppu.transfersY, and_assoc]

theorem latePpu_idle (h256 : p.cycle ≠ 256) (h257 : p.cycle ≠ 257) (h280 : ¬ p.transfersY) : latePpu p = p := by
  rw [← Ppu.transfersY_iff, Bool.not_eq_true] at h280
  unfold latePpu
  dsimp only
  rw [applyIf_of_false (beq_false_of_ne h256), applyIf_of_false (beq_false_of_ne h257), applyIf_of_false h280,
    applyIf_of_false]
  rw [beq_false_of_ne h257]
  rfl

theorem latePpu_row (h : p.cycle = 256) : latePpu p = incrementScrollY p := by
  unfold latePpu
  dsimp only
  rw [applyIf_of_true (beq_iff_eq.2 h), incrementScrollY_eq]
  simp [applyIf, h]

theorem latePpu_column (h : p.cycle = 257) :
    latePpu p = applyIf (p.scanline ≥ 0) evaluateSprites (transferAddressX (loadBackgroundShifters p)) := by
  unfold latePpu
  dsimp only
  rw [h, applyIf_of_false (c := 257 == 256) rfl, h, applyIf_of_true (c := 257 == 257) rfl, transferAddressX_eq]
  simp [applyIf, loadBackgroundShifters, h]

theorem latePpu_transferY (h : p.transfersY) : latePpu p = transferAddressY p := by
  have ⟨hl, hc, hc'⟩ := h
  rw [← Ppu.transfersY_iff] at h
  have h256 : p.cycle ≠ 256 := by omega
  have h257 : p.cycle ≠ 257 := by omega
  unfold latePpu
  dsimp only
  rw [applyIf_of_false (beq_false_of_ne h256), applyIf_of_false (beq_false_of_ne h257), applyIf_of_true h,
    transferAddressY_eq]
  simp [applyIf, h257]

end

section
variable {s : State}

theorem latePpu_position (p : Ppu) : (latePpu p).cycle = p.cycle ∧ (latePpu p).scanline = p.scanline := by
  by_cases h256 : p.cycle = 256
  · rw [latePpu_row h256, incrementScrollY_eq]
    exact ⟨rfl, rfl⟩
  by_cases h257 : p.cycle = 257
  · rw [latePpu_column h257, transferAddressX_eq]
    unfold applyIf
    split
    · exact ⟨rfl, rfl⟩
    · exact ⟨rfl, rfl⟩
  by_cases h280 : p.transfersY
  · rw [latePpu_transferY h280, transferAddressY_eq]
    exact ⟨rfl, rfl⟩
  · rw [latePpu_idle h256 h257 h280]
    exact ⟨rfl, rfl⟩

theorem lateWork_ppu (h : ¬ (s.ppu.cycle = 340 ∧ 0 ≤ s.ppu.scanline)) : lateWork s = s.onPpu latePpu := by
  obtain ⟨hc, hl⟩ := latePpu_position s.ppu
  refine applyIf_of_false ?_ _ _
  rw [State.onPpu_ppu, hc, hl]
  simpa using h

theorem lateWork_load (hc : s.ppu.cycle = 340) (hl : 0 ≤ s.ppu.scanline) : lateWork s = loadSpritePatterns s := by
  have hp : s.onPpu latePpu = s := congrArg s.setPpu
    (latePpu_idle (p := s.ppu) (by omega) (by omega) (fun ⟨h, _⟩ => by omega))
  unfold lateWork
  dsimp only
  rw [hp]
  exact applyIf_of_true (by simp [hc, hl]) _ _

end

/-! The window action. -/

/-- R333: the slots that count, at cycles 1 to 257 with sprites shown. -/
def Ppu.tickedSlots (p : Ppu) : List SpriteSlot :=
  if p.renderSpr && p.cycle ≥ 1 && p.cycle ≤ 257 then (p.mapActive SpriteSlot.tick).spr else p.spr

theorem tickSlots_eq (p : Ppu) :
    applyIf (p.renderSpr && p.cycle ≥ 1 && p.cycle ≤ 257) (fun p => p.mapActive SpriteSlot.tick) p =
      { p with spr := p.tickedSlots } := by
  unfold applyIf Ppu.tickedSlots
  split
  · rfl
  · rfl

/-- R333: one background shifter. -/
def Ppu.shiftedWord (p : Ppu) (w : Word) : Word := if p.renderBg then w <<< 1 else w

theorem updateShifters_eq (p : Ppu) :
    updateShifters p = { p with
      shPatLo := p.shiftedWord p.shPatLo, shPatHi := p.shiftedWord p.shPatHi
      shAttLo := p.shiftedWord p.shAttLo, shAttHi := p.shiftedWord p.shAttHi, spr := p.tickedSlots } := by
  unfold updateShifters
  dsimp only
  rw [tickSlots_eq]
  unfold Ppu.shiftedWord
  cases hb : p.renderBg
  · rfl
  · rfl

/-- R325 to R327: a fetch looks at the PPU's memories and its mask alone. -/
theorem fetchAt_onPpu (s : State) {f : Ppu → Ppu} (h0 : (f s.ppu).nt0 = s.ppu.nt0) (h1 : (f s.ppu).nt1 = s.ppu.nt1)
    (hp : (f s.ppu).pal = s.ppu.pal) (hm : (f s.ppu).mask = s.ppu.mask) (a : BitVec 14) :
    fetchAt (s.onPpu f) a = fetchAt s a := ppuRead_setPpu s (f s.ppu) h0 h1 hp hm _

/-- R330: a background shifter that is reloaded in phase 0. -/
def reloaded (k : Nat) (w : Word) (b : Byte) : Word := if k = 0 then putLow w b else w

/-- R324: the action of a window cycle in phase `k`. -/
def windowPhase (k : Nat) (s : State) : State :=
  match k with
  | 0 => fetchNameTable (s.onPpu loadBackgroundShifters)
  | 2 => fetchAttribute s
  | 4 => fetchLowPlane s
  | 6 => fetchHighPlane s
  | 7 => s.onPpu incrementScrollX
  | _ => s

/-- R324 to R328, R330: the PPU after a window action, by its phase. -/
theorem windowAction_ppu (s : State) :
    let p := s.ppu
    let k := (p.cycle - 1) % 8
    (windowAction s).ppu = { p with
      vram := if k = 7 ∧ p.renderingEnabled = true then nextColumn p.vram else p.vram
      bgId := if k = 0 then fetchAt s (nameTableAddr p.vram) else p.bgId
      bgAttrib := if k = 2 then attributeBits p.vram (fetchAt s (attributeAddr p.vram)) else p.bgAttrib
      bgLsb := if k = 4 then fetchAt s (patternBase p) else p.bgLsb
      bgMsb := if k = 6 then fetchAt s (patternBase p + 8#14) else p.bgMsb
      shPatLo := reloaded k p.shPatLo p.bgLsb
      shPatHi := reloaded k p.shPatHi p.bgMsb
      shAttLo := reloaded k p.shAttLo (spread (p.bgAttrib.getLsbD 0))
      shAttHi := reloaded k p.shAttHi (spread (p.bgAttrib.getLsbD 1)) } := by
  intro p k
  have hk : k < 8 := Nat.mod_lt _ (by decide)
  have hload : fetchAt (s.onPpu loadBackgroundShifters) = fetchAt s :=
    funext fun a => fetchAt_onPpu s rfl rfl rfl rfl a
  have hphase : windowPhase k s = windowAction s := rfl
  rw [← hphase]
  clear_value k
  unfold windowPhase reloaded
  interval_cases k
  · change (fetchNameTable (s.onPpu loadBackgroundShifters)).ppu = _
    rw [fetchNameTable, hload]
    simp [p, State.onPpu, loadBackgroundShifters]
  · rfl
  · rfl
  · rfl
  · rfl
  · rfl
  · rfl
  · simp [p, State.onPpu, incrementScrollX_eq]

/-- R324 to R328, R330, R333: the PPU after the work of a window cycle. -/
theorem windowWork_ppu {s : State} (h : s.ppu.inWindow = true) :
    let p := s.ppu
    let k := (p.cycle - 1) % 8
    (windowWork s).ppu = { p with
      vram := if k = 7 ∧ p.renderingEnabled = true then nextColumn p.vram else p.vram
      bgId := if k = 0 then fetchAt s (nameTableAddr p.vram) else p.bgId
      bgAttrib := if k = 2 then attributeBits p.vram (fetchAt s (attributeAddr p.vram)) else p.bgAttrib
      bgLsb := if k = 4 then fetchAt s (patternBase p) else p.bgLsb
      bgMsb := if k = 6 then fetchAt s (patternBase p + 8#14) else p.bgMsb
      shPatLo := reloaded k (p.shiftedWord p.shPatLo) p.bgLsb
      shPatHi := reloaded k (p.shiftedWord p.shPatHi) p.bgMsb
      shAttLo := reloaded k (p.shiftedWord p.shAttLo) (spread (p.bgAttrib.getLsbD 0))
      shAttHi := reloaded k (p.shiftedWord p.shAttHi) (spread (p.bgAttrib.getLsbD 1))
      spr := p.tickedSlots } := by
  have hu := updateShifters_eq s.ppu
  have hf : fetchAt (s.onPpu updateShifters) = fetchAt s := by
    funext a
    exact fetchAt_onPpu s (by rw [hu]) (by rw [hu]) (by rw [hu]) (by rw [hu]) a
  have hw : windowWork s = windowAction (s.onPpu updateShifters) := applyIf_of_true h _ _
  intro p k
  rw [hw, windowAction_ppu, hf]
  simp only [State.onPpu_ppu, hu]
  rfl

theorem windowWork_outside {s : State} (h : ¬ s.ppu.inWindow = true) : windowWork s = s :=
  applyIf_of_false (Bool.not_eq_true _ ▸ h) _ _

end Sys2Proof.Machine
end

section
/-! SUPPORT. The fetch work of a PPU cycle (48_ppu_rendering.md R344) by position, and as one record of the PPU. -/

namespace Sys2Proof.Machine

/-! The positions at which the fetch work does something besides the window's action. -/

/-- R323: is the position that of the pre-render clear? -/
abbrev Ppu.clears (p : Ppu) : Prop := p.scanline = -1 ∧ p.cycle = 1

/-- R334: is the position one of the sprite evaluation? -/
abbrev Ppu.evaluates (p : Ppu) : Prop := 0 ≤ p.scanline ∧ p.cycle = 257

/-- R335: is the position one of the pattern load? -/
abbrev Ppu.loads (p : Ppu) : Prop := 0 ≤ p.scanline ∧ p.cycle = 340

section
variable {s : State}

/-- The window's action and what follows it, where nothing comes before. -/
theorem fetchWork_late (h : 2 ≤ s.ppu.cycle) : fetchWork s = lateWork (windowWork s) := by
  rw [fetchWork_eq, headWork_of_two_le h]

theorem windowWork_position (s : State) :
    (windowWork s).ppu.cycle = s.ppu.cycle ∧ (windowWork s).ppu.scanline = s.ppu.scanline := by
  by_cases h : s.ppu.inWindow = true
  · rw [windowWork_ppu h]
    exact ⟨rfl, rfl⟩
  · rw [windowWork_outside h]
    exact ⟨rfl, rfl⟩

/-- Nothing follows the window's action but at cycles 256, 257, 280 to 304 of line -1 and 340 of the visible lines. -/
theorem lateWork_idle (h256 : s.ppu.cycle ≠ 256) (h257 : s.ppu.cycle ≠ 257) (h280 : ¬ s.ppu.transfersY)
    (hl : ¬ s.ppu.loads) : lateWork s = s :=
  (lateWork_ppu fun h => hl h.symm).trans (congrArg s.setPpu (latePpu_idle h256 h257 h280))

/-- Cycles 0 and 1: only the skip and the pre-render clear. -/
theorem fetchWork_early (h : s.ppu.cycle ≤ 1) : fetchWork s = headWork s := by
  have hp : (headWork s).ppu.cycle ≤ 1 := by
    by_cases hs : s.ppu.skips
    · rw [headWork_skips hs]
      exact Nat.le_refl 1
    by_cases hc : s.ppu.clears
    · rw [headWork_clears hc.1 hc.2]
      exact h
    · rw [headWork_idle hs hc]
      exact h
  have hw : ¬ (headWork s).ppu.inWindow = true := by
    rw [Ppu.inWindow_iff]
    omega
  rw [fetchWork_eq, windowWork_outside hw]
  exact lateWork_idle (by omega) (by omega) (fun ⟨_, h, _⟩ => by omega) (fun ⟨_, h⟩ => by omega)

end

/-! The PPU record after the fetch work. -/

/-- R328, R329, R331, R332: `vram`. -/
def Ppu.fetchedVram (p : Ppu) : BitVec 15 :=
  if ¬ p.renderingEnabled = true then p.vram
  else if p.cycle = 256 then nextRow (nextColumn p.vram)
  else if p.cycle = 257 then setCoarseX (setNtX p.vram (ntX p.tram)) (coarseX p.tram)
  else if p.transfersY then setCoarseY (setNtY (setFineY p.vram (fineY p.tram)) (ntY p.tram)) (coarseY p.tram)
  else if p.inWindow = true ∧ (p.cycle - 1) % 8 = 7 then nextColumn p.vram
  else p.vram

/-- R330, R333: a background shifter. -/
def Ppu.fetchedWord (p : Ppu) (w : Word) (b : Byte) : Word :=
  if p.inWindow = true then reloaded ((p.cycle - 1) % 8) (p.shiftedWord w) b else w

/-- R323, R333 to R335: the sprite slots. -/
def fetchedSlots (s : State) : List SpriteSlot :=
  if s.ppu.clears then (preRenderClear s.ppu).spr
  else if s.ppu.evaluates then (evaluateSprites s.ppu).spr
  else if s.ppu.loads then (loadSpritePatterns s).ppu.spr
  else if s.ppu.inWindow = true then s.ppu.tickedSlots
  else s.ppu.spr

/-- R323, R334: the status byte. -/
def Ppu.fetchedStatus (p : Ppu) : Byte :=
  if p.clears then (preRenderClear p).status else if p.evaluates then (evaluateSprites p).status else p.status

/-- R322 to R335: the PPU record after the fetch work. -/
def fetched (s : State) : Ppu :=
  let p := s.ppu
  let w := p.inWindow = true
  let k := (p.cycle - 1) % 8
  { p with
    cycle := if p.skips then 1 else p.cycle
    status := p.fetchedStatus
    vram := p.fetchedVram
    bgId := if w ∧ k = 0 then fetchAt s (nameTableAddr p.vram) else p.bgId
    bgAttrib := if w ∧ k = 2 then attributeBits p.vram (fetchAt s (attributeAddr p.vram)) else p.bgAttrib
    bgLsb := if w ∧ k = 4 then fetchAt s (patternBase p) else p.bgLsb
    bgMsb := if w ∧ k = 6 then fetchAt s (patternBase p + 8#14) else p.bgMsb
    shPatLo := p.fetchedWord p.shPatLo p.bgLsb
    shPatHi := p.fetchedWord p.shPatHi p.bgMsb
    shAttLo := p.fetchedWord p.shAttLo (spread (p.bgAttrib.getLsbD 0))
    shAttHi := p.fetchedWord p.shAttHi (spread (p.bgAttrib.getLsbD 1))
    spr := fetchedSlots s
    sprCount := if p.evaluates then (evaluateSprites p).sprCount else p.sprCount
    zeroPossible := if p.evaluates then (evaluateSprites p).zeroPossible else p.zeroPossible }

section
variable {s : State}

theorem Ppu.fetchedVram_outside {p : Ppu} (hw : ¬ p.inWindow = true) (ht : ¬ p.transfersY) : p.fetchedVram = p.vram := by
  have h := hw
  rw [Ppu.inWindow_iff] at h
  have h256 : p.cycle ≠ 256 := by omega
  have h257 : p.cycle ≠ 257 := by omega
  simp only [Ppu.fetchedVram, h256, h257, ht, hw, Bool.false_eq_true, false_and, if_false, ite_self]

theorem Ppu.fetchedVram_transferY {p : Ppu} (ht : p.transfersY) : p.fetchedVram = (transferAddressY p).vram := by
  have h256 : p.cycle ≠ 256 := by omega
  have h257 : p.cycle ≠ 257 := by omega
  rw [transferAddressY_eq]
  simp only [Ppu.fetchedVram, h256, h257, if_false, if_pos ht]
  exact ite_not _ _ _

/-- Outside the window only the skip, the clear, the vertical transfer and the pattern load change the record. -/
theorem fetched_outside (hw : ¬ s.ppu.inWindow = true) :
    fetched s = { s.ppu with
      cycle := if s.ppu.skips then 1 else s.ppu.cycle
      status := if s.ppu.clears then (preRenderClear s.ppu).status else s.ppu.status
      vram := if s.ppu.transfersY then (transferAddressY s.ppu).vram else s.ppu.vram
      spr := if s.ppu.clears then (preRenderClear s.ppu).spr
        else if s.ppu.loads then (loadSpritePatterns s).ppu.spr else s.ppu.spr } := by
  have he : ¬ s.ppu.evaluates := fun ⟨_, h⟩ => hw (by rw [Ppu.inWindow_iff]; omega)
  have hv : s.ppu.fetchedVram = if s.ppu.transfersY then (transferAddressY s.ppu).vram else s.ppu.vram := by
    split
    · exact Ppu.fetchedVram_transferY ‹_›
    · exact Ppu.fetchedVram_outside hw ‹_›
  have hb : s.ppu.inWindow = false := Bool.not_eq_true _ ▸ hw
  unfold fetched fetchedSlots Ppu.fetchedStatus Ppu.fetchedWord
  simp only [hb, he, hv, if_false, false_and, Bool.false_eq_true]

theorem fetchWork_outside (hw : ¬ s.ppu.inWindow = true) : (fetchWork s).ppu = fetched s := by
  rw [fetched_outside hw]
  have hr := hw
  rw [Ppu.inWindow_iff] at hr
  by_cases hs : s.ppu.skips
  · rw [fetchWork_early (by omega), headWork_skips hs, if_pos hs, if_neg (by omega), if_neg (by omega),
      if_neg (by omega), if_neg (by omega)]
    rfl
  rw [if_neg hs]
  by_cases hc : s.ppu.clears
  · rw [fetchWork_early (by omega), headWork_clears hc.1 hc.2, if_pos hc, if_pos hc, if_neg (by omega)]
    rfl
  rw [if_neg hc, if_neg hc]
  by_cases h1 : s.ppu.cycle ≤ 1
  · rw [fetchWork_early h1, headWork_idle hs hc, if_neg (by omega), if_neg (by omega)]
  rw [fetchWork_late (by omega), windowWork_outside hw]
  by_cases hl : s.ppu.loads
  · rw [lateWork_load hl.2 hl.1, if_neg (by omega), if_pos hl]
    rfl
  rw [if_neg hl]
  by_cases ht : s.ppu.transfersY
  · rw [lateWork_ppu (by omega), if_pos ht, State.onPpu_ppu, latePpu_transferY ht, transferAddressY_eq]
  · rw [lateWork_idle (by omega) (by omega) ht hl, if_neg ht]

theorem loadBackgroundShifters_eq (p : Ppu) : loadBackgroundShifters p = { p with
    shPatLo := putLow p.shPatLo p.bgLsb, shPatHi := putLow p.shPatHi p.bgMsb
    shAttLo := putLow p.shAttLo (spread (p.bgAttrib.getLsbD 0))
    shAttHi := putLow p.shAttHi (spread (p.bgAttrib.getLsbD 1)) } := rfl

/-- R330: reloading again changes nothing. -/
theorem putLow_putLow (w : Word) (b : Byte) : putLow (putLow w b) b = putLow w b := by
  unfold putLow zext16
  ext i hi
  simp
  grind

/-- R334: evaluation looks at OAM, the line, the control register and the status byte. -/
theorem evaluateSprites_congr {p q : Ppu} (ho : q.oam = p.oam) (hl : q.scanline = p.scanline)
    (hc : q.control = p.control) (hs : q.status = p.status) :
    evaluateSprites q = { q with
      spr := (evaluateSprites p).spr, sprCount := (evaluateSprites p).sprCount
      zeroPossible := (evaluateSprites p).zeroPossible, status := (evaluateSprites p).status } := by
  have hcov : q.covers = p.covers := by
    funext n
    unfold Ppu.covers Ppu.spriteHeight Ppu.tallSprites
    rw [ho, hl, hc]
  have hslot : q.oamSlot = p.oamSlot := by
    funext n
    unfold Ppu.oamSlot
    rw [ho]
  unfold evaluateSprites Ppu.selected
  rw [hcov, hslot, hs]

/-- R330: at cycle 257 the window's action has reloaded the shifters already. -/
theorem loadBackgroundShifters_windowWork (h : s.ppu.cycle = 257) :
    loadBackgroundShifters (windowWork s).ppu = (windowWork s).ppu := by
  rw [windowWork_ppu ((Ppu.inWindow_iff _).2 (by omega)), loadBackgroundShifters_eq, h]
  simp [reloaded, putLow_putLow]

/-- In the window the skip, the clear, the vertical transfer and the pattern load do not come. -/
theorem fetched_window (hw : s.ppu.inWindow = true) :
    fetched s = { (windowWork s).ppu with
      vram := s.ppu.fetchedVram
      status := if s.ppu.evaluates then (evaluateSprites s.ppu).status else s.ppu.status
      spr := if s.ppu.evaluates then (evaluateSprites s.ppu).spr else s.ppu.tickedSlots
      sprCount := if s.ppu.evaluates then (evaluateSprites s.ppu).sprCount else s.ppu.sprCount
      zeroPossible := if s.ppu.evaluates then (evaluateSprites s.ppu).zeroPossible else s.ppu.zeroPossible } := by
  have hr := hw
  rw [Ppu.inWindow_iff] at hr
  have hs : ¬ s.ppu.skips := by omega
  have hc : ¬ s.ppu.clears := by omega
  have hl : ¬ s.ppu.loads := by omega
  rw [windowWork_ppu hw]
  unfold fetched fetchedSlots Ppu.fetchedStatus Ppu.fetchedWord
  simp only [hw, hs, hc, hl, if_false, if_true, true_and]

/-- The vertical transfer, evaluation and load do not follow; the column advance may have come. -/
theorem Ppu.fetchedVram_window {p : Ppu} (hw : p.inWindow = true) :
    p.fetchedVram =
      if p.cycle = 256 then (if p.renderingEnabled then nextRow (nextColumn p.vram) else p.vram)
      else if p.cycle = 257 then (transferAddressX p).vram
      else if (p.cycle - 1) % 8 = 7 then (incrementScrollX p).vram else p.vram := by
  have hr := hw
  rw [Ppu.inWindow_iff] at hr
  have ht : ¬ p.transfersY := by omega
  rw [incrementScrollX_eq, transferAddressX_eq]
  unfold Ppu.fetchedVram
  rw [if_neg ht, hw]
  cases p.renderingEnabled
  · simp
  · simp

theorem windowWork_vram (hw : s.ppu.inWindow = true) :
    (windowWork s).ppu.vram = if (s.ppu.cycle - 1) % 8 = 7 then (incrementScrollX s.ppu).vram else s.ppu.vram := by
  rw [windowWork_ppu hw, incrementScrollX_eq]
  exact ite_and _ _ _ _

theorem fetchWork_window (hw : s.ppu.inWindow = true) : (fetchWork s).ppu = fetched s := by
  have hr := hw
  rw [Ppu.inWindow_iff] at hr
  have ht : ¬ s.ppu.transfersY := by omega
  obtain ⟨hcyc, hline⟩ := windowWork_position s
  have hoam : (windowWork s).ppu.oam = s.ppu.oam := by rw [windowWork_ppu hw]
  have hctl : (windowWork s).ppu.control = s.ppu.control := by rw [windowWork_ppu hw]
  have hstat : (windowWork s).ppu.status = s.ppu.status := by rw [windowWork_ppu hw]
  have hslots : (windowWork s).ppu.spr = s.ppu.tickedSlots := by rw [windowWork_ppu hw]
  have hcount : (windowWork s).ppu.sprCount = s.ppu.sprCount := by rw [windowWork_ppu hw]
  have hzero : (windowWork s).ppu.zeroPossible = s.ppu.zeroPossible := by rw [windowWork_ppu hw]
  rw [fetched_window hw, fetchWork_late (by omega), lateWork_ppu (by omega), State.onPpu_ppu]
  by_cases h256 : s.ppu.cycle = 256
  · have hv : s.ppu.fetchedVram = (incrementScrollY (windowWork s).ppu).vram := by
      have hmask : (windowWork s).ppu.renderingEnabled = s.ppu.renderingEnabled := by
        rw [windowWork_ppu hw]
        rfl
      rw [Ppu.fetchedVram_window hw, incrementScrollY_eq, windowWork_vram hw, if_pos h256, h256, incrementScrollX_eq,
        hmask]
      cases s.ppu.renderingEnabled
      · rfl
      · rfl
    rw [latePpu_row (by omega), if_neg (by omega), if_neg (by omega), if_neg (by omega), if_neg (by omega), hv,
      incrementScrollY_eq, ← hstat, ← hslots, ← hcount, ← hzero]
  by_cases h257 : s.ppu.cycle = 257
  · have hv : s.ppu.fetchedVram = (transferAddressX (windowWork s).ppu).vram := by
      rw [Ppu.fetchedVram_window hw, if_neg h256, if_pos h257, transferAddressX_eq, transferAddressX_eq,
        windowWork_vram hw, h257, windowWork_ppu hw]
      rfl
    rw [latePpu_column (by omega), loadBackgroundShifters_windowWork h257, hv, transferAddressX_eq]
    by_cases he : s.ppu.evaluates
    · rw [applyIf_of_true (by simpa [hline] using he.1), if_pos he, if_pos he, if_pos he, if_pos he]
      exact evaluateSprites_congr hoam hline hctl hstat
    · have hl : ¬ 0 ≤ s.ppu.scanline := fun h => he ⟨h, h257⟩
      rw [applyIf_of_false (by simpa [hline] using hl), if_neg he, if_neg he, if_neg he, if_neg he, ← hstat, ← hslots,
        ← hcount, ← hzero]
  have hv : s.ppu.fetchedVram = (windowWork s).ppu.vram := by
    rw [Ppu.fetchedVram_window hw, windowWork_vram hw, if_neg h256, if_neg h257]
  have he : ¬ s.ppu.evaluates := fun h => h257 h.2
  have hi : ¬ (windowWork s).ppu.transfersY := fun ⟨h, _, _⟩ => by omega
  rw [latePpu_idle (by omega) (by omega) hi, if_neg he, if_neg he, if_neg he, if_neg he, hv, ← hstat, ← hslots,
    ← hcount, ← hzero]

theorem fetchWork_ppu (s : State) : (fetchWork s).ppu = fetched s := by
  by_cases hw : s.ppu.inWindow = true
  · exact fetchWork_window hw
  · exact fetchWork_outside hw

end
end Sys2Proof.Machine
end

section
/-! The end of a PPU cycle (48_ppu_rendering.md R344): vertical blank, composition, the mapper's tick and the position. The
position (O53), vertical blank and the tick (O54). -/

namespace Sys2Proof.Machine

variable {s : State}

/-- R344 A: the state after the fetch work, which lines -1 to 239 have. -/
def afterFetch (s : State) : State := applyIf s.ppu.fetchLine fetchWork s

theorem afterFetch_line (h : s.ppu.fetchLine = true) : afterFetch s = fetchWork s := applyIf_of_true h _ _

theorem afterFetch_blank (h : ¬ s.ppu.fetchLine = true) : afterFetch s = s :=
  applyIf_of_false (Bool.not_eq_true _ ▸ h) _ _

theorem afterFetch_frame (s : State) : afterFetch s = s.setPpu (afterFetch s).ppu :=
  ppuOnly_applyIf fetchWork_frame _ s

theorem afterFetch_mapper (s : State) : (afterFetch s).mapper = s.mapper := by
  rw [afterFetch_frame]
  rfl

/-- A part of the record that the fetch work leaves. -/
theorem afterFetch_proj {β : Type} (g : Ppu → β) (h : g (fetched s) = g s.ppu) : g (afterFetch s).ppu = g s.ppu :=
  applyIf_proj (fun t : State => g t.ppu) _ _ ((congrArg g (fetchWork_ppu s)).trans h)

theorem afterFetch_scanline (s : State) : (afterFetch s).ppu.scanline = s.ppu.scanline := afterFetch_proj Ppu.scanline rfl

/-- R322: the cycle after the fetch work. -/
theorem afterFetch_cycle (s : State) : (afterFetch s).ppu.cycle = if s.ppu.skips then 1 else s.ppu.cycle := by
  by_cases h : s.ppu.fetchLine = true
  · rw [afterFetch_line h, fetchWork_ppu]
    rfl
  · rw [afterFetch_blank h, if_neg fun hs => h (by rw [Ppu.fetchLine_iff]; omega)]

theorem afterFetch_of_not_skips (h : ¬ s.ppu.skips) : (afterFetch s).ppu.cycle = s.ppu.cycle := by
  rw [afterFetch_cycle, if_neg h]

/-- R337: does the cycle compose a pixel? -/
abbrev composes (s : State) : Prop :=
  (0 ≤ s.ppu.scanline ∧ s.ppu.scanline ≤ 239) ∧ 1 ≤ (afterFetch s).ppu.cycle ∧ (afterFetch s).ppu.cycle ≤ 256

/-- R342: is the position that of vertical blank? -/
abbrev Ppu.blanks (p : Ppu) : Prop := p.scanline = 241 ∧ p.cycle = 1

theorem Ppu.not_fetchLine_of_blanks {p : Ppu} (h : p.blanks) : ¬ p.fetchLine = true := by
  rw [Ppu.fetchLine_iff]
  omega

/-- R342: vertical blank begins outside the picture. -/
theorem vblank_afterFetch (s : State) : (afterFetch s).onPpu (fun p => applyIf (p.at 241 1) beginVblank p) =
    if s.ppu.blanks then s.setPpu (beginVblank s.ppu) else afterFetch s := by
  have hl := afterFetch_scanline s
  split
  next h =>
    rw [afterFetch_blank (Ppu.not_fetchLine_of_blanks h)]
    exact congrArg s.setPpu (applyIf_of_true ((s.ppu.at_iff _ _).2 h) _ _)
  next h =>
    refine congrArg (afterFetch s).setPpu (applyIf_of_false (Ppu.at_false fun e => h ?_) _ _)
    have hc := afterFetch_of_not_skips (s := s) (by omega)
    omega

theorem composes_iff {t : State} (hl : t.ppu.scanline = s.ppu.scanline) (hc : t.ppu.cycle = (afterFetch s).ppu.cycle) :
    (t.ppu.visibleLine && t.ppu.cycle ≥ 1 && t.ppu.cycle ≤ 256) = true ↔ composes s := by
  unfold Ppu.visibleLine composes
  rw [hl, hc]
  simp [and_assoc]

/-- R344: the state before the mapper's tick. -/
def beforeTick (s : State) : State :=
  if composes s then composePixel (afterFetch s)
  else if s.ppu.blanks then s.setPpu (beginVblank s.ppu)
  else afterFetch s

theorem ppuClock_parts (s : State) : ppuClock s =
    State.onPpu advancePosition
      (applyIf ((beforeTick s).ppu.fetchLine && (beforeTick s).ppu.cycle == 260) mapperTick (beforeTick s)) := by
  have hb : ∀ t : State, t = (if s.ppu.blanks then s.setPpu (beginVblank s.ppu) else afterFetch s) →
      applyIf (t.ppu.visibleLine && t.ppu.cycle ≥ 1 && t.ppu.cycle ≤ 256) composePixel t = beforeTick s := by
    rintro _ rfl
    by_cases h : s.ppu.blanks
    · have hc := afterFetch_of_not_skips (s := s) (by omega)
      rw [if_pos h, beforeTick, if_neg (by omega), if_pos h]
      refine applyIf_of_false (Bool.eq_false_iff.2 fun e => ?_) _ _
      have := (composes_iff (s := s) rfl hc.symm).1 e
      omega
    · rw [if_neg h, beforeTick, if_neg h]
      by_cases h' : composes s
      · rw [if_pos h']
        exact applyIf_of_true ((composes_iff (afterFetch_scanline s) rfl).2 h') _ _
      · rw [if_neg h']
        exact applyIf_of_false (Bool.eq_false_iff.2 fun e => h' ((composes_iff (afterFetch_scanline s) rfl).1 e)) _ _
  have hp := hb _ (vblank_afterFetch s)
  unfold ppuClock
  dsimp only
  rw [← hp]
  rfl

/-- R344: the PPU record after a cycle. -/
theorem ppuClock_ppu (s : State) : (ppuClock s).ppu = advancePosition (beforeTick s).ppu := by
  rw [ppuClock_parts, State.onPpu_ppu]
  exact congrArg advancePosition (applyIf_proj (fun t : State => t.ppu) _ _ (by rw [mapperTick_frame]; rfl))

theorem beforeTick_composes (h : composes s) : beforeTick s = composePixel (afterFetch s) := if_pos h

theorem beforeTick_blanks (h : s.ppu.blanks) : beforeTick s = s.setPpu (beginVblank s.ppu) := by
  rw [beforeTick, if_neg (by omega), if_pos h]

theorem beforeTick_idle (h : ¬ composes s) (hb : ¬ s.ppu.blanks) : beforeTick s = afterFetch s := by
  rw [beforeTick, if_neg h, if_neg hb]

/-- A part of the record that composition and vertical blank leave. -/
theorem beforeTick_proj {β : Type} (g : Ppu → β) (hc : ∀ s, g (composePixel s).ppu = g s.ppu)
    (hv : ∀ p, g (beginVblank p) = g p) : g (beforeTick s).ppu = g (afterFetch s).ppu := by
  by_cases h : composes s
  · rw [beforeTick_composes h, hc]
  by_cases hb : s.ppu.blanks
  · rw [beforeTick_blanks hb, afterFetch_blank (Ppu.not_fetchLine_of_blanks hb)]
    exact hv _
  · rw [beforeTick_idle h hb]

theorem advancePosition_proj {β : Type} (g : Ppu → β)
    (h : ∀ p c l f o, g { p with cycle := c, scanline := l, frameComplete := f, oddFrame := o } = g p) (p : Ppu) :
    g (advancePosition p) = g p := by
  unfold advancePosition
  split
  · split
    · exact h p _ _ _ _
    · exact h p _ _ p.frameComplete p.oddFrame
  · exact h p _ p.scanline p.frameComplete p.oddFrame

theorem beforeTick_cycle (s : State) : (beforeTick s).ppu.cycle = if s.ppu.skips then 1 else s.ppu.cycle :=
  (beforeTick_proj Ppu.cycle (fun _ => rfl) fun _ => rfl).trans (afterFetch_cycle s)

/-- The skip leaves cycle 0 for cycle 1 and moves no other position. -/
theorem beforeTick_cycle_iff (s : State) {c : Nat} (h : 1 < c) : (beforeTick s).ppu.cycle = c ↔ s.ppu.cycle = c := by
  rw [beforeTick_cycle]
  split <;> omega

/-! O53. -/

/-- R320, R321: the position counters, on a position in range. -/
theorem advancePosition_eq {p : Ppu} (hc : p.cycle ≤ 340) (hl : p.scanline ≤ 260) :
    advancePosition p = { p with
      cycle := (p.cycle + 1) % 341
      scanline := if p.scanline = 260 ∧ p.cycle = 340 then -1 else if p.cycle = 340 then p.scanline + 1 else p.scanline
      oddFrame := if p.scanline = 260 ∧ p.cycle = 340 then !p.oddFrame else p.oddFrame
      frameComplete := if p.scanline = 260 ∧ p.cycle = 340 then true else p.frameComplete } := by
  unfold advancePosition
  by_cases h : p.cycle = 340
  · by_cases h' : p.scanline = 260
    · simp [h, h']
    · have : ¬ 260 < p.scanline + 1 := by omega
      simp [h, h', this]
  · have : ¬ 340 < p.cycle + 1 := by omega
    have hm : (p.cycle + 1) % 341 = p.cycle + 1 := Nat.mod_eq_of_lt (by omega)
    simp [h, this, hm]

/-- Settles O53: the fetch work only skips cycle 0, and the counters do the rest. -/
theorem positionAdvance : Obligations.PositionAdvance := by
  intro s hs p q skip wraps
  have hcyc := beforeTick_cycle s
  have hline : (beforeTick s).ppu.scanline = s.ppu.scanline :=
    (beforeTick_proj Ppu.scanline (fun _ => rfl) fun _ => rfl).trans (afterFetch_scanline s)
  have hodd : (beforeTick s).ppu.oddFrame = s.ppu.oddFrame :=
    (beforeTick_proj Ppu.oddFrame (fun _ => rfl) fun _ => rfl).trans (afterFetch_proj Ppu.oddFrame rfl)
  have hdone : (beforeTick s).ppu.frameComplete = s.ppu.frameComplete :=
    (beforeTick_proj Ppu.frameComplete (fun _ => rfl) fun _ => rfl).trans (afterFetch_proj Ppu.frameComplete rfl)
  obtain ⟨-, hl, hc, -⟩ := (ppuInRange_iff _).1 hs
  change s.ppu.scanline ≤ 260 at hl
  change s.ppu.cycle ≤ 340 at hc
  have hc' : (beforeTick s).ppu.cycle ≤ 340 := by
    rw [hcyc]
    split <;> omega
  have hlast := beforeTick_cycle_iff s (c := 340) (by decide)
  have hq : q = _ := (ppuClock_ppu s).trans (advancePosition_eq hc' (hline ▸ hl))
  simp only [hline, hlast, hodd, hdone] at hq
  rw [hq]
  refine ⟨fun h => ?_, fun h => ?_, rfl, rfl, rfl⟩
  · change ((beforeTick s).ppu.cycle + 1) % 341 = 2
    rw [hcyc, if_pos h]
  · change ((beforeTick s).ppu.cycle + 1) % 341 = _
    rw [hcyc, if_neg h]

/-! O54. -/

/-- R343: the mapper after a cycle. -/
theorem ppuClock_mapper_eq (s : State) : (ppuClock s).mapper =
    if s.ppu.fetchLine = true ∧ s.ppu.cycle = 260 ∧ s.ppu.renderingEnabled = true then s.mapper.onScanline
    else s.mapper := by
  have hmap : (beforeTick s).mapper = s.mapper := by
    unfold beforeTick
    split
    · exact afterFetch_mapper s
    · split
      · rfl
      · exact afterFetch_mapper s
  have hline : (beforeTick s).ppu.fetchLine = s.ppu.fetchLine :=
    (beforeTick_proj Ppu.fetchLine (fun _ => rfl) fun _ => rfl).trans (afterFetch_proj Ppu.fetchLine rfl)
  have hon : (beforeTick s).ppu.renderingEnabled = s.ppu.renderingEnabled :=
    (beforeTick_proj Ppu.renderingEnabled (fun _ => rfl) fun _ => rfl).trans (afterFetch_proj Ppu.renderingEnabled rfl)
  have h260 := beforeTick_cycle_iff s (c := 260) (by decide)
  rw [ppuClock_parts]
  change (applyIf _ mapperTick (beforeTick s)).mapper = _
  unfold applyIf mapperTick applyIf
  rw [hon, hline]
  simp only [Bool.and_eq_true, beq_iff_eq, h260]
  by_cases h : s.ppu.fetchLine = true ∧ s.ppu.cycle = 260
  · by_cases h' : s.ppu.renderingEnabled = true
    · simp [h, h', hmap]
    · simp [h, h', hmap]
  · rw [if_neg h, if_neg fun e => h ⟨e.1, e.2.1⟩, hmap]

/-- R323: the clear of the three status flags. -/
theorem preRenderClear_status (p : Ppu) : (preRenderClear p).status = p.status &&& 0x1F#8 := by
  change p.status &&& _ &&& _ &&& _ = _
  rw [BitVec.and_assoc, BitVec.and_assoc]
  rfl

/-- R334: evaluation changes no status bit but the overflow flag. -/
theorem evaluateSprites_status {p : Ppu} {j : Nat} (h : j ≠ 5) :
    (evaluateSprites p).status.getLsbD j = p.status.getLsbD j := by
  change (if _ then _ else _ : Byte).getLsbD j = _
  split
  · exact (putBit_getLsbD _ _ _ (by decide)).trans (if_neg h)
  · rfl

/-- R340: composition changes no status bit but the sprite-zero flag. -/
theorem composePixel_status {j : Nat} (h : j ≠ 6) :
    (composePixel s).ppu.status.getLsbD j = s.ppu.status.getLsbD j := by
  change (if _ then _ else _ : Byte).getLsbD j = _
  split
  · exact (putBit_getLsbD _ _ _ (by decide)).trans (if_neg h)
  · rfl

theorem afterFetch_status (s : State) :
    (afterFetch s).ppu.status = if s.ppu.fetchLine = true then s.ppu.fetchedStatus else s.ppu.status := by
  split
  · rw [afterFetch_line ‹_›, fetchWork_ppu]
    rfl
  · rw [afterFetch_blank ‹_›]

theorem Ppu.fetchLine_of_clears {p : Ppu} (h : p.clears) : p.fetchLine = true := by
  rw [Ppu.fetchLine_iff]
  omega

/-- R323: the fetch work at (-1, 1). -/
theorem afterFetch_clears (h : s.ppu.clears) : (afterFetch s).ppu.status = s.ppu.status &&& 0x1F#8 := by
  rw [afterFetch_status, if_pos (Ppu.fetchLine_of_clears h), Ppu.fetchedStatus, if_pos h, preRenderClear_status]

/-- R323, R334: elsewhere the fetch work changes the overflow flag alone, and that in the evaluation. -/
theorem afterFetch_status_keeps (h : ¬ s.ppu.clears) {j : Nat}
    (hj : ¬ (s.ppu.fetchLine = true ∧ s.ppu.evaluates ∧ j = 5)) :
    (afterFetch s).ppu.status.getLsbD j = s.ppu.status.getLsbD j := by
  rw [afterFetch_status]
  split
  · rw [Ppu.fetchedStatus, if_neg h]
    split
    · exact evaluateSprites_status fun e => hj ⟨‹_›, ‹_›, e⟩
    · rfl
  · rfl

/-- R323, R334, R340, R342: a status bit after a cycle. -/
theorem ppuClock_status (s : State) (j : Nat) : (ppuClock s).ppu.status.getLsbD j =
    if composes s then (composePixel (afterFetch s)).ppu.status.getLsbD j
    else if s.ppu.blanks then (putBit s.ppu.status vblankBit true).getLsbD j
    else (afterFetch s).ppu.status.getLsbD j := by
  rw [ppuClock_ppu, advancePosition_proj Ppu.status fun _ _ _ _ _ => rfl]
  unfold beforeTick
  split
  · rfl
  · split
    · rfl
    · rfl

theorem not_composes_of_blanks (h : s.ppu.blanks) : ¬ composes s := by omega

theorem not_composes_of_clears (h : s.ppu.clears) : ¬ composes s := by omega

/-- R342, R323: at (-1, 1) the cycle ends with what the fetch work leaves. -/
theorem beforeTick_clears (h : s.ppu.clears) : beforeTick s = afterFetch s :=
  beforeTick_idle (not_composes_of_clears h) (by omega)

theorem onScanline_of_ne {m : Mapper} (h : ∀ r, m ≠ .mmc3 r) : m.onScanline = m := by
  cases m
  case mmc3 r => exact absurd rfl (h r)
  all_goals rfl

/-- Settles O54: vertical blank and its request are raised outside the picture, the clear is the fetch work's, and only
MMC3 has a tick. -/
theorem verticalBlank : Obligations.VerticalBlank := by
  intro s p q begins ends
  refine ⟨?_, ?_, fun he => ⟨?_, ?_⟩, fun r hr => ?_, fun hm => ?_⟩
  · rw [ppuClock_status]
    by_cases hb : begins
    · rw [if_neg (not_composes_of_blanks hb), if_pos hb, if_pos hb]
      exact putBit_getLsbD _ _ _ (by decide)
    rw [if_neg hb, if_neg hb, composePixel_status (by decide), ite_self]
    by_cases he : ends
    · rw [if_pos he, afterFetch_clears he]
      simp
    · rw [if_neg he]
      exact afterFetch_status_keeps he (by simp)
  · change (ppuClock s).ppu.nmi = _
    rw [ppuClock_ppu, advancePosition_proj Ppu.nmi fun _ _ _ _ _ => rfl]
    by_cases hb : begins
    · rw [beforeTick_blanks hb]
      change (s.ppu.nmi || s.ppu.control.getLsbD 7) = if begins ∧ s.ppu.control.getLsbD 7 = true then true else s.ppu.nmi
      cases s.ppu.control.getLsbD 7
      · simp
      · simp [hb]
    · have hn : (beforeTick s).ppu.nmi = (afterFetch s).ppu.nmi := by
        unfold beforeTick
        rw [if_neg (c := s.ppu.blanks) hb]
        split
        · rfl
        · rfl
      rw [if_neg fun h => hb h.1, hn]
      exact afterFetch_proj Ppu.nmi rfl
  · change (ppuClock s).ppu.status = _
    rw [ppuClock_ppu, advancePosition_proj Ppu.status fun _ _ _ _ _ => rfl, beforeTick_clears he]
    exact afterFetch_clears he
  · change (ppuClock s).ppu.spr = _
    rw [ppuClock_ppu, advancePosition_proj Ppu.spr fun _ _ _ _ _ => rfl, beforeTick_clears he,
      afterFetch_line (Ppu.fetchLine_of_clears he), fetchWork_ppu]
    exact if_pos he
  · rw [ppuClock_mapper_eq, hr]
    simp only [Ppu.fetchLine_iff, Ppu.renderingEnabled_iff, and_assoc]
    exact (apply_ite Mapper.mmc3 _ _ _).symm
  · rw [ppuClock_mapper_eq, onScanline_of_ne hm, ite_self]

end Sys2Proof.Machine
end

section
/-! O57: what one PPU cycle does to the registers behind the picture (48_ppu_rendering.md R324 to R335), as numbers. -/

namespace Sys2Proof.Machine

/-! Addresses as numbers (R325 to R327). -/

/-- Bits below those of `x` are added to it. -/
theorem or_eq_add (k : Nat) {x y : Nat} (hx : 2 ^ k ∣ x) (hy : y < 2 ^ k) : x ||| y = x + y := by
  obtain ⟨a, rfl⟩ := hx
  exact (Nat.two_pow_add_eq_or_of_lt hy a).symm

theorem setWidth_shiftLeft_toNat {n : Nat} (x : BitVec n) (k : Nat) (h : n + k ≤ 14) :
    (x.setWidth 14 <<< k).toNat = 2 ^ k * x.toNat := by
  have hx : x.toNat * 2 ^ k < 2 ^ 14 :=
    calc x.toNat * 2 ^ k < 2 ^ n * 2 ^ k := Nat.mul_lt_mul_of_pos_right x.isLt (Nat.two_pow_pos k)
      _ = 2 ^ (n + k) := (Nat.pow_add ..).symm
      _ ≤ 2 ^ 14 := Nat.pow_le_pow_right (by decide) h
  rw [BitVec.toNat_shiftLeft, BitVec.toNat_setWidth_of_le (by omega), Nat.shiftLeft_eq, Nat.mod_eq_of_lt hx, Nat.mul_comm]

theorem nameTableAddr_toNat (v : BitVec 15) : (nameTableAddr v).toNat = 0x2000 + v.toNat % 4096 := by
  have hm : ((v &&& 0x0FFF#15).setWidth 14).toNat = v.toNat % 4096 := by
    rw [BitVec.toNat_setWidth, BitVec.toNat_and, show (0x0FFF#15).toNat = 2 ^ 12 - 1 from rfl,
      Nat.and_two_pow_sub_one_eq_mod]
    omega
  rw [nameTableAddr, BitVec.toNat_or, hm]
  exact or_eq_add 13 (by decide) (by omega)

theorem attributeAddr_toNat (v : BitVec 15) :
    (attributeAddr v).toNat = 0x23C0 + 1024 * (v.toNat / 1024 % 4) + 8 * (v.toNat / 128 % 8) + v.toNat / 4 % 8 := by
  have hy : ((coarseY v >>> 2).setWidth 14 <<< 3).toNat = 8 * (v.toNat / 128 % 8) := by
    rw [setWidth_shiftLeft_toNat _ _ (by decide), BitVec.toNat_ushiftRight, coarseY_toNat, Nat.shiftRight_eq_div_pow]
    omega
  have hx : ((coarseX v >>> 2).setWidth 14).toNat = v.toNat / 4 % 8 := by
    rw [BitVec.toNat_setWidth_of_le (by decide), BitVec.toNat_ushiftRight, coarseX_toNat, Nat.shiftRight_eq_div_pow]
    omega
  have hor : ∀ a < 2, ∀ b < 2, ∀ c < 8, ∀ d < 8,
      0x23C0 ||| 2 ^ 11 * a ||| 2 ^ 10 * b ||| 8 * c ||| d = 0x23C0 + 2 ^ 11 * a + 2 ^ 10 * b + 8 * c + d := by
    decide
  rw [attributeAddr, BitVec.toNat_or, BitVec.toNat_or, BitVec.toNat_or, BitVec.toNat_or, hx, hy,
    setWidth_shiftLeft_toNat _ _ (by decide), setWidth_shiftLeft_toNat _ _ (by decide), ntX_toNat, ntY_toNat]
  refine (hor _ (Nat.mod_lt _ (by decide)) _ (Nat.mod_lt _ (by decide)) _ (Nat.mod_lt _ (by decide)) _
    (Nat.mod_lt _ (by decide))).trans ?_
  omega

theorem patternBase_toNat (p : Ppu) :
    (patternBase p).toNat = 4096 * (p.control.getLsbD 4).toNat + 16 * p.bgId.toNat + p.vram.toNat / 4096 := by
  have hb : (if p.control.getLsbD 4 then 0x1000#14 else 0#14).toNat = 4096 * (p.control.getLsbD 4).toNat := by
    cases p.control.getLsbD 4
    · rfl
    · rfl
  have hid := p.bgId.isLt
  have hv := p.vram.isLt
  have hb' := (p.control.getLsbD 4).toNat_le
  rw [patternBase, BitVec.toNat_add, BitVec.toNat_add, hb, setWidth_shiftLeft_toNat _ _ (by decide),
    BitVec.toNat_setWidth_of_le (by decide), fineY_toNat]
  omega

theorem patternBase_high_toNat (p : Ppu) : (patternBase p + 8#14).toNat = (patternBase p).toNat + 8 := by
  have hid := p.bgId.isLt
  have hv := p.vram.isLt
  have hb := (p.control.getLsbD 4).toNat_le
  rw [BitVec.toNat_add, patternBase_toNat, show (8#14).toNat = 8 from rfl]
  omega

theorem attributeBits_toNat (v : BitVec 15) (a : Byte) :
    (attributeBits v a).toNat = a.toNat / 4 ^ (2 * (v.toNat / 64 % 2) + v.toNat / 2 % 2) % 4 := by
  have hy : (coarseY v).getLsbD 1 = decide (v.toNat / 64 % 2 = 1) := by
    rw [BitVec.getLsbD, Nat.testBit_eq_decide_div_mod_eq, coarseY_toNat]
    grind
  have hx : (coarseX v).getLsbD 1 = decide (v.toNat / 2 % 2 = 1) := by
    rw [BitVec.getLsbD, Nat.testBit_eq_decide_div_mod_eq, coarseX_toNat]
    grind
  have hm : ∀ b : Byte, (b &&& 0x03#8).toNat = b.toNat % 4 := fun b => by
    rw [BitVec.toNat_and]
    exact Nat.and_two_pow_sub_one_eq_mod b.toNat 2
  unfold attributeBits
  dsimp only
  rw [hm, hy, hx]
  rcases Nat.mod_two_eq_zero_or_one (v.toNat / 64) with h | h <;>
    rcases Nat.mod_two_eq_zero_or_one (v.toNat / 2) with h' | h' <;>
    simp [h, h', Nat.shiftRight_eq_div_pow]

/-! Shifters as numbers (R330, R333). -/

theorem putLow_toNat (w : Word) (b : Byte) : (putLow w b).toNat = w.toNat / 256 * 256 + b.toNat := by
  have hb := b.isLt
  have hm : (w &&& 0xFF00#16).toNat = w.toNat / 256 * 256 := by
    have he : w &&& 0xFF00#16 = (w >>> 8) <<< 8 := by
      ext i hi
      interval_cases i <;> simp
    rw [he, BitVec.toNat_shiftLeft, BitVec.toNat_ushiftRight, Nat.shiftRight_eq_div_pow, Nat.shiftLeft_eq]
    omega
  rw [putLow, BitVec.toNat_or, hm, zext16_toNat]
  exact or_eq_add 8 (Nat.dvd_mul_left ..) hb

theorem spread_toNat (b : Bool) : (spread b).toNat = 255 * b.toNat := by
  cases b
  · rfl
  · rfl

theorem Ppu.shiftedWord_toNat (p : Ppu) (w : Word) :
    (p.shiftedWord w).toNat = if p.mask.getLsbD 3 = true then 2 * w.toNat % 65536 else w.toNat := by
  unfold Ppu.shiftedWord Ppu.renderBg
  split
  · rw [BitVec.toNat_shiftLeft, Nat.shiftLeft_eq, Nat.mul_comm]
  · rfl

theorem reloaded_toNat (k : Nat) (w : Word) (b : Byte) :
    (reloaded k w b).toNat = if k = 0 then w.toNat / 256 * 256 + b.toNat else w.toNat := by
  unfold reloaded
  split
  · exact putLow_toNat w b
  · rfl

/-! Sprite slots (R333). -/

theorem Ppu.mapActive_getElem? (p : Ppu) (f : SpriteSlot → SpriteSlot) (k : Nat) :
    (p.mapActive f).spr[k]? = (p.spr[k]?).map fun d => if k < p.sprCount then f d else d := by
  unfold Ppu.mapActive
  grind

theorem SpriteSlot.tick_eq (d : SpriteSlot) : d.tick =
    if d.x.toNat = 0 then { d with lo := BitVec.ofNat 8 (2 * d.lo.toNat), hi := BitVec.ofNat 8 (2 * d.hi.toNat) }
    else { d with x := BitVec.ofNat 8 (d.x.toNat - 1) } := by
  have hx : d.x = 0x00#8 ↔ d.x.toNat = 0 := by
    rw [← BitVec.toNat_inj]
    rfl
  have hshift : ∀ b : Byte, b <<< 1 = BitVec.ofNat 8 (2 * b.toNat) := fun b => by
    apply BitVec.eq_of_toNat_eq
    rw [BitVec.toNat_shiftLeft, BitVec.toNat_ofNat, Nat.shiftLeft_eq, Nat.mul_comm]
  unfold SpriteSlot.tick
  by_cases h : d.x.toNat = 0
  · rw [if_pos (hx.2 h), if_pos h, hshift, hshift]
  · have hd : d.x - 1#8 = BitVec.ofNat 8 (d.x.toNat - 1) := by
      bv_omega
    rw [if_neg (mt hx.1 h), if_neg h, hd]

/-! The registers after a cycle. -/

section
variable {s : State}

/-- R344: the end of a cycle changes the position, the status byte, the request and the picture alone. -/
theorem ppuClock_end (s : State) :
    let q := (ppuClock s).ppu
    q = { (afterFetch s).ppu with
      cycle := q.cycle, scanline := q.scanline, oddFrame := q.oddFrame, frameComplete := q.frameComplete
      status := q.status, nmi := q.nmi, zeroRendered := q.zeroRendered, frame := q.frame } := by
  have hb : ∀ p : Ppu,
      (∃ st n z f, p = { (afterFetch s).ppu with status := st, nmi := n, zeroRendered := z, frame := f }) →
      advancePosition p = { (afterFetch s).ppu with
        cycle := (advancePosition p).cycle, scanline := (advancePosition p).scanline
        oddFrame := (advancePosition p).oddFrame, frameComplete := (advancePosition p).frameComplete
        status := (advancePosition p).status, nmi := (advancePosition p).nmi
        zeroRendered := (advancePosition p).zeroRendered, frame := (advancePosition p).frame } := by
    rintro _ ⟨st, n, z, f, rfl⟩
    unfold advancePosition
    split
    · split
      · rfl
      · rfl
    · rfl
  intro q
  have hq : q = advancePosition (beforeTick s).ppu := ppuClock_ppu s
  clear_value q
  subst hq
  refine hb _ ?_
  by_cases h : composes s
  · rw [beforeTick_composes h]
    exact ⟨_, (afterFetch s).ppu.nmi, _, _, rfl⟩
  by_cases h' : s.ppu.blanks
  · rw [beforeTick_blanks h', afterFetch_blank (Ppu.not_fetchLine_of_blanks h')]
    exact ⟨_, _, s.ppu.zeroRendered, s.ppu.frame, rfl⟩
  · rw [beforeTick_idle h h']
    exact ⟨(afterFetch s).ppu.status, (afterFetch s).ppu.nmi, (afterFetch s).ppu.zeroRendered, (afterFetch s).ppu.frame,
      rfl⟩

theorem afterFetch_field {β : Type} (g : Ppu → β) :
    g (afterFetch s).ppu = if s.ppu.fetchLine = true then g (fetched s) else g s.ppu := by
  split
  · rw [afterFetch_line ‹_›, fetchWork_ppu]
  · rw [afterFetch_blank ‹_›]

/-- A condition inside the window, on the lines that fetch. -/
theorem ite_window {α : Type} (p : Ppu) (c : Prop) [Decidable c] (a b : α) :
    (if p.fetchLine = true then (if p.inWindow = true ∧ c then a else b) else b) =
      if ((-1 ≤ p.scanline ∧ p.scanline ≤ 239) ∧
        ((2 ≤ p.cycle ∧ p.cycle ≤ 257) ∨ (321 ≤ p.cycle ∧ p.cycle ≤ 337))) ∧ c then a else b := by
  simp only [Ppu.fetchLine_iff, Ppu.inWindow_iff, ← ite_and, and_assoc]

/-- R330, R333: a background shifter after a cycle. -/
theorem fetchedWord_toNat (p : Ppu) (x : Word) (b : Byte) :
    (if p.fetchLine = true then p.fetchedWord x b else x).toNat =
      if (-1 ≤ p.scanline ∧ p.scanline ≤ 239) ∧
        ((2 ≤ p.cycle ∧ p.cycle ≤ 257) ∨ (321 ≤ p.cycle ∧ p.cycle ≤ 337)) then
        (let shifted := if p.mask.getLsbD 3 = true then 2 * x.toNat % 65536 else x.toNat
        if (p.cycle - 1) % 8 = 0 then shifted / 256 * 256 + b.toNat else shifted)
      else x.toNat := by
  have h := ite_window p True (reloaded ((p.cycle - 1) % 8) (p.shiftedWord x) b) x
  simp only [and_true] at h
  rw [Ppu.fetchedWord, h, apply_ite BitVec.toNat, reloaded_toNat, Ppu.shiftedWord_toNat]

/-- R328, R329, R331, R332: `vram` after a cycle. -/
theorem fetchedVram_toNat (p : Ppu) :
    let v := p.vram.toNat
    let column := if v % 32 = 31 then (if v / 1024 % 2 = 0 then v - 31 + 1024 else v - 31 - 1024) else v + 1
    let row := fun n : Nat =>
      if n / 4096 < 7 then n + 4096
      else if n / 32 % 32 = 29 then (if n / 2048 % 2 = 0 then n % 4096 - 928 + 2048 else n % 4096 - 928 - 2048)
      else if n / 32 % 32 = 31 then n % 4096 - 992
      else n % 4096 + 32
    let horizontal := fun n : Nat => n % 32 + 1024 * (n / 1024 % 2)
    p.fetchedVram.toNat =
      if ¬ p.renderingEnabled = true then v
      else if p.cycle = 256 then row column
      else if p.cycle = 257 then v - horizontal v + horizontal p.tram.toNat
      else if p.transfersY then horizontal v + (p.tram.toNat - horizontal p.tram.toNat)
      else if p.inWindow = true ∧ (p.cycle - 1) % 8 = 7 then column
      else v := by
  intro v column row horizontal
  have hcol : (nextColumn p.vram).toNat = column := nextColumn_toNat _
  unfold Ppu.fetchedVram
  rw [apply_ite BitVec.toNat, apply_ite BitVec.toNat, apply_ite BitVec.toNat, apply_ite BitVec.toNat,
    apply_ite BitVec.toNat, nextRow_toNat, hcol, transferX_toNat, transferY_toNat]

/-- R333: the slots that count, at the cycles at which they may. -/
theorem Ppu.tickedSlots_getElem? {p : Ppu} (h : 1 ≤ p.cycle) (h' : p.cycle ≤ 257) (k : Nat) :
    p.tickedSlots[k]? = (p.spr[k]?).map fun d => if k < p.sprCount ∧ p.mask.getLsbD 4 = true then d.tick else d := by
  unfold Ppu.tickedSlots Ppu.renderSpr
  cases p.mask.getLsbD 4
  · simp
  · simp [h, h', Ppu.mapActive_getElem?]

theorem Ppu.tickedSlots_late {p : Ppu} (h : 257 < p.cycle) : p.tickedSlots = p.spr := by
  refine if_neg fun e => ?_
  simp only [Bool.and_eq_true, decide_eq_true_eq] at e
  omega

theorem fetchedSlots_window (h : s.ppu.inWindow = true) (he : ¬ s.ppu.evaluates) : fetchedSlots s = s.ppu.tickedSlots := by
  have hr := h
  rw [Ppu.inWindow_iff] at hr
  rw [fetchedSlots, if_neg (by omega), if_neg he, if_neg (by omega), if_pos h]

theorem fetchedSlots_evaluates (h : s.ppu.evaluates) : fetchedSlots s = (evaluateSprites s.ppu).spr := by
  rw [fetchedSlots, if_neg (by omega), if_pos h]

theorem fetchedSlots_loads (h : s.ppu.loads) : fetchedSlots s = (loadSpritePatterns s).ppu.spr := by
  rw [fetchedSlots, if_neg (by omega), if_neg (by omega), if_pos h]

/-- R323, R333 to R335: the slots stay outside the clear, the count, the evaluation and the load. -/
theorem fetchedSlots_idle (hw : ¬ (2 ≤ s.ppu.cycle ∧ s.ppu.cycle ≤ 257)) (hl : ¬ s.ppu.loads) (hc : ¬ s.ppu.clears) :
    fetchedSlots s = s.ppu.spr := by
  rw [fetchedSlots, if_neg hc, if_neg (by omega), if_neg hl]
  split
  next h =>
    rw [Ppu.inWindow_iff] at h
    exact Ppu.tickedSlots_late (by omega)
  · rfl

/-- A result of the sprite evaluation, on the lines that fetch. -/
theorem ite_evaluates {α : Type} (p : Ppu) (a b : α) :
    (if p.fetchLine = true then (if p.evaluates then a else b) else b) =
      if (-1 ≤ p.scanline ∧ p.scanline ≤ 239) ∧ p.evaluates then a else b := by
  simp only [Ppu.fetchLine_iff, ite_and]

/-- R334: the status byte after the cycle of the sprite evaluation. -/
theorem ppuClock_status_evaluates (hl : s.ppu.fetchLine = true) (he : s.ppu.evaluates) :
    (ppuClock s).ppu.status = (evaluateSprites s.ppu).status := by
  have hc := afterFetch_of_not_skips (s := s) (by omega)
  have hcomp : ¬ composes s := by omega
  rw [ppuClock_ppu, advancePosition_proj Ppu.status fun _ _ _ _ _ => rfl, beforeTick_idle hcomp (by omega),
    afterFetch_status, if_pos hl, Ppu.fetchedStatus, if_neg (by omega), if_pos he]

/-- R340, R342: composition and vertical blank change bits 6 and 7 of the status byte. -/
theorem ppuClock_status_keeps (s : State) {j : Nat} (h6 : j ≠ 6) (h7 : j ≠ 7) :
    (ppuClock s).ppu.status.getLsbD j = (afterFetch s).ppu.status.getLsbD j := by
  rw [ppuClock_status]
  split
  · exact composePixel_status h6
  · split
    next h =>
      rw [afterFetch_blank (Ppu.not_fetchLine_of_blanks h)]
      exact (putBit_getLsbD _ _ _ (by decide)).trans (if_neg h7)
    · rfl

/-! The sprite slots after a cycle. -/

theorem ppuClock_spr (hl : s.ppu.fetchLine = true) : (ppuClock s).ppu.spr = fetchedSlots s := by
  rw [ppuClock_end]
  exact (afterFetch_field Ppu.spr).trans (if_pos hl)

theorem ppuClock_spr_blank (hl : ¬ s.ppu.fetchLine = true) : (ppuClock s).ppu.spr = s.ppu.spr := by
  rw [ppuClock_end]
  exact (afterFetch_field Ppu.spr).trans (if_neg hl)

theorem ppuClock_sprCount (s : State) : (ppuClock s).ppu.sprCount =
    if (-1 ≤ s.ppu.scanline ∧ s.ppu.scanline ≤ 239) ∧ s.ppu.evaluates then (evaluateSprites s.ppu).sprCount
    else s.ppu.sprCount := by
  rw [ppuClock_end]
  exact (afterFetch_field Ppu.sprCount).trans (ite_evaluates _ _ _)

theorem ppuClock_zeroPossible (s : State) : (ppuClock s).ppu.zeroPossible =
    if (-1 ≤ s.ppu.scanline ∧ s.ppu.scanline ≤ 239) ∧ s.ppu.evaluates then (evaluateSprites s.ppu).zeroPossible
    else s.ppu.zeroPossible := by
  rw [ppuClock_end]
  exact (afterFetch_field Ppu.zeroPossible).trans (ite_evaluates _ _ _)

/-- R323, R334: the overflow flag where no evaluation comes. -/
theorem ppuClock_overflow (h : ¬ ((-1 ≤ s.ppu.scanline ∧ s.ppu.scanline ≤ 239) ∧ s.ppu.evaluates)) :
    (ppuClock s).ppu.status.getLsbD 5 = if s.ppu.clears then false else s.ppu.status.getLsbD 5 := by
  rw [ppuClock_status_keeps s (by decide) (by decide)]
  split
  next hc =>
    rw [afterFetch_clears hc]
    simp
  next hc => exact afterFetch_status_keeps hc fun e => h ⟨(Ppu.fetchLine_iff _).1 e.1, e.2.1⟩

/-- Settles O57: every register is what the fetch work leaves, and the numbers are those of its parts. -/
theorem renderCycle : Obligations.RenderCycle := by
  intro s p q c line enabled window phase v w column row horizontal shifted after tile
  have hq := ppuClock_end s
  refine ⟨?_, ⟨?_, ?_, ?_, ?_, ?_, ?_, ?_⟩, ?_, ?_, ?_, ?_, ⟨?_, ?_, ?_, ?_⟩, ?_, ⟨?_, ?_, ?_, ?_⟩, ppuClock_frame s⟩
  · refine (congrArg BitVec.toNat ((congrArg Ppu.vram hq).trans (afterFetch_field Ppu.vram))).trans ?_
    rw [apply_ite BitVec.toNat]
    change (if _ then s.ppu.fetchedVram.toNat else _) = _
    rw [fetchedVram_toNat]
    have hw : line → ((s.ppu.inWindow = true ∧ (s.ppu.cycle - 1) % 8 = 7) ↔ (window ∧ phase = 7)) := fun hl => by
      rw [Ppu.inWindow_iff]
      exact and_congr_left' (and_iff_right hl).symm
    by_cases hl : line
    · rw [if_pos ((Ppu.fetchLine_iff _).2 hl)]
      simp only [Ppu.renderingEnabled_iff, hw hl]
      simp only [hl, true_and]
      rfl
    · rw [if_neg (mt (Ppu.fetchLine_iff _).1 hl), if_pos fun h => hl h.1]
  · exact (congrArg Ppu.tram hq).trans (afterFetch_proj Ppu.tram rfl)
  · exact (congrArg Ppu.fineX hq).trans (afterFetch_proj Ppu.fineX rfl)
  · exact (congrArg Ppu.latch hq).trans (afterFetch_proj Ppu.latch rfl)
  · exact (congrArg Ppu.control hq).trans (afterFetch_proj Ppu.control rfl)
  · exact (congrArg Ppu.mask hq).trans (afterFetch_proj Ppu.mask rfl)
  · exact (congrArg Ppu.oamAddr hq).trans (afterFetch_proj Ppu.oamAddr rfl)
  · exact (congrArg Ppu.dataBuffer hq).trans (afterFetch_proj Ppu.dataBuffer rfl)
  · refine ((congrArg Ppu.bgId hq).trans (afterFetch_field Ppu.bgId)).trans ((ite_window _ _ _ _).trans ?_)
    rw [fetchAt, nameTableAddr_toNat]
  · refine (congrArg BitVec.toNat (((congrArg Ppu.bgAttrib hq).trans (afterFetch_field Ppu.bgAttrib)).trans
      (ite_window _ _ _ _))).trans ?_
    rw [apply_ite BitVec.toNat, attributeBits_toNat, fetchAt, attributeAddr_toNat]
  · refine ((congrArg Ppu.bgLsb hq).trans (afterFetch_field Ppu.bgLsb)).trans ((ite_window _ _ _ _).trans ?_)
    rw [fetchAt, patternBase_toNat]
  · refine ((congrArg Ppu.bgMsb hq).trans (afterFetch_field Ppu.bgMsb)).trans ((ite_window _ _ _ _).trans ?_)
    rw [fetchAt, patternBase_high_toNat, patternBase_toNat]
  · exact (congrArg BitVec.toNat ((congrArg Ppu.shPatLo hq).trans (afterFetch_field Ppu.shPatLo))).trans
      (fetchedWord_toNat _ _ _)
  · exact (congrArg BitVec.toNat ((congrArg Ppu.shPatHi hq).trans (afterFetch_field Ppu.shPatHi))).trans
      (fetchedWord_toNat _ _ _)
  · rw [← spread_toNat]
    exact (congrArg BitVec.toNat ((congrArg Ppu.shAttLo hq).trans (afterFetch_field Ppu.shAttLo))).trans
      (fetchedWord_toNat _ _ _)
  · rw [← spread_toNat]
    exact (congrArg BitVec.toNat ((congrArg Ppu.shAttHi hq).trans (afterFetch_field Ppu.shAttHi))).trans
      (fetchedWord_toNat _ _ _)
  · intro evaluates loads clears counts
    have hline : ∀ {a : List SpriteSlot}, line → fetchedSlots s = a → q.spr = a := fun hl ha =>
      (ppuClock_spr ((Ppu.fetchLine_iff _).2 hl)).trans ha
    refine ⟨fun ⟨hl, h, h', he⟩ k => ?_, fun ⟨hl, he⟩ => ⟨hline hl ?_, ?_, ?_, ?_⟩, fun ⟨hl, h⟩ => hline hl ?_,
      fun h => ?_, fun hc he hl hcl => ?_, fun h => ⟨?_, ?_, ppuClock_overflow h⟩⟩
    · have hw := fetchedSlots_window ((Ppu.inWindow_iff _).2 (.inl ⟨h, h'⟩)) fun e => he ⟨hl, e⟩
      rw [hline hl hw, Ppu.tickedSlots_getElem? (Nat.le_of_lt h) h']
      simp only [SpriteSlot.tick_eq]
    · exact fetchedSlots_evaluates he
    · exact (ppuClock_sprCount s).trans (if_pos ⟨hl, he⟩)
    · exact (ppuClock_zeroPossible s).trans (if_pos ⟨hl, he⟩)
    · exact ppuClock_status_evaluates ((Ppu.fetchLine_iff _).2 hl) he
    · exact fetchedSlots_loads h
    · exact hline ((Ppu.fetchLine_iff _).1 (Ppu.fetchLine_of_clears h)) (if_pos h)
    · by_cases h : line
      · exact hline h (fetchedSlots_idle (fun hw => hc ⟨h, hw.1, hw.2, he⟩) (fun e => hl ⟨h, e⟩) hcl)
      · exact ppuClock_spr_blank (mt (Ppu.fetchLine_iff _).1 h)
    · exact (ppuClock_sprCount s).trans (if_neg h)
    · exact (ppuClock_zeroPossible s).trans (if_neg h)
  · exact (congrArg Ppu.oam hq).trans (afterFetch_proj Ppu.oam rfl)
  · exact (congrArg Ppu.pal hq).trans (afterFetch_proj Ppu.pal rfl)
  · exact (congrArg Ppu.nt0 hq).trans (afterFetch_proj Ppu.nt0 rfl)
  · exact (congrArg Ppu.nt1 hq).trans (afterFetch_proj Ppu.nt1 rfl)

end

end Sys2Proof.Machine
end

section
/-! O56: composition (48_ppu_rendering.md R337 to R341) and the cycles that compose. -/

namespace Sys2Proof.Machine

variable {s : State}

/-! Pixels as numbers. -/

/-- R337: a bit of a word as a number. -/
theorem getLsbD_toNat {w : Nat} (x : BitVec w) (k : Nat) : (x.getLsbD k).toNat = x.toNat / 2 ^ k % 2 := by
  rw [BitVec.getLsbD, Nat.testBit_eq_decide_div_mod_eq]
  rcases Nat.mod_two_eq_zero_or_one (x.toNat / 2 ^ k) with h | h
  · simp [h]
  · simp [h]

theorem planes_toNat (hi lo : Bool) : (planes hi lo).toNat = lo.toNat + 2 * hi.toNat := by
  cases hi <;> cases lo <;> rfl

theorem Ppu.bgShown_iff (p : Ppu) :
    p.bgShown = true ↔ p.mask.getLsbD 3 = true ∧ (p.mask.getLsbD 1 = true ∨ 9 ≤ p.cycle) := by
  simp [Ppu.bgShown, Ppu.renderBg, Ppu.bgLeft]

theorem Ppu.sprShown_iff (p : Ppu) :
    p.sprShown = true ↔ p.mask.getLsbD 4 = true ∧ (p.mask.getLsbD 2 = true ∨ 9 ≤ p.cycle) := by
  simp [Ppu.sprShown, Ppu.renderSpr, Ppu.sprLeft]

theorem SpriteSlot.pixel_toNat (d : SpriteSlot) :
    d.pixel.toNat = if d.x = 0x00#8 then d.lo.toNat / 128 + 2 * (d.hi.toNat / 128) else 0 := by
  have hbit : ∀ b : Byte, (b.getLsbD 7).toNat = b.toNat / 128 := fun b => by
    have := b.isLt
    rw [getLsbD_toNat]
    omega
  unfold SpriteSlot.pixel
  split
  · rw [planes_toNat, hbit, hbit]
  · rfl

theorem Ppu.bgPixel_toNat (p : Ppu) : p.bgPixel.toNat =
    if p.bgShown = true then
      p.shPatLo.toNat / 2 ^ (15 - p.fineX.toNat) % 2 + 2 * (p.shPatHi.toNat / 2 ^ (15 - p.fineX.toNat) % 2)
    else 0 := by
  unfold Ppu.bgPixel
  split
  · rw [planes_toNat, Ppu.muxBit, Ppu.muxBit, getLsbD_toNat, getLsbD_toNat]
  · rfl

theorem Ppu.bgPalette_toNat (p : Ppu) : p.bgPalette.toNat =
    if p.bgShown = true then
      p.shAttLo.toNat / 2 ^ (15 - p.fineX.toNat) % 2 + 2 * (p.shAttHi.toNat / 2 ^ (15 - p.fineX.toNat) % 2)
    else 0 := by
  unfold Ppu.bgPalette
  split
  · rw [planes_toNat, Ppu.muxBit, Ppu.muxBit, getLsbD_toNat, getLsbD_toNat]
  · rfl

/-- R341. -/
theorem paletteAddr_toNat (pair : BitVec 3 × BitVec 2) :
    (paletteAddr pair).toNat = 0x3F00 + 4 * pair.1.toNat + pair.2.toNat := by
  obtain ⟨a, b⟩ := pair
  have ha := a.isLt
  have hb := b.isLt
  rw [paletteAddr, BitVec.toNat_or, BitVec.toNat_setWidth_of_le (by decide), BitVec.toNat_append, Nat.shiftLeft_eq]
  dsimp only
  rw [or_eq_add 2 (by omega) hb]
  refine (or_eq_add 8 (by decide) (by omega)).trans ?_
  change 0x3F00 + _ = _
  omega

theorem SpriteSlot.palette_toNat (d : SpriteSlot) : d.palette.toNat = 4 + d.attr.toNat % 4 := by
  have h : (d.attr.extractLsb' 0 2).toNat = d.attr.toNat % 4 := by simp
  rw [SpriteSlot.palette, BitVec.toNat_append, h, Nat.shiftLeft_eq]
  exact or_eq_add 2 (by decide) (Nat.mod_lt _ (by decide))

/-- R338, R339: the pair that is shown, by the two layers. -/
theorem Ppu.shownPair_toNat (p : Ppu) : (p.shownPair.1.toNat, p.shownPair.2.toNat) =
      match decide (p.bgPixel = 0#2), p.foreground.map fun f => f.2 with
      | true, none => (0, 0)
      | true, some d => (4 + d.attr.toNat % 4, d.pixel.toNat)
      | false, none => (p.bgPalette.toNat, p.bgPixel.toNat)
      | false, some d =>
        if d.attr.getLsbD 5 then (p.bgPalette.toNat, p.bgPixel.toNat) else (4 + d.attr.toNat % 4, d.pixel.toNat) := by
  have hb : (0#1 ++ p.bgPalette : BitVec 3).toNat = p.bgPalette.toNat := by
    rw [BitVec.toNat_append]
    exact Nat.zero_or _
  unfold Ppu.shownPair SpriteSlot.front
  cases hf : p.foreground with
  | none =>
    by_cases h : p.bgPixel = 0#2
    · simp [h]
    · simp [h, hb]
  | some f =>
    obtain ⟨k, d⟩ := f
    by_cases h : p.bgPixel = 0#2
    · simp [h, SpriteSlot.palette_toNat]
    · cases ha : d.attr[5]
      · simp [h, ha, SpriteSlot.palette_toNat]
      · simp [h, ha, hb]

/-- R338: the slot in front. -/
theorem Ppu.foreground_eq_some (p : Ppu) (k : Nat) (d : SpriteSlot) : p.foreground = some (k, d) ↔
    p.sprShown = true ∧ k < p.sprCount ∧ p.spr[k]? = some d ∧ d.pixel ≠ 0#2 ∧
      ∀ j < k, ∀ e, p.spr[j]? = some e → e.pixel = 0#2 := by
  unfold Ppu.foreground
  split
  next hs =>
    have hin : ∀ {k j : Nat}, j ≤ k → k < p.sprCount → (p.spr.take p.sprCount)[j]? = p.spr[j]? := fun hj hk =>
      List.getElem?_take_of_lt (by omega)
    rw [firstOpaque_eq_some, Nat.sub_zero]
    constructor
    · rintro ⟨-, hk, hd, hj⟩
      have hlt : k < p.sprCount := by
        obtain ⟨h, -⟩ := List.getElem?_eq_some_iff.1 hk
        rw [List.length_take] at h
        omega
      exact ⟨hs, hlt, hin (Nat.le_refl k) hlt ▸ hk, hd, fun j h e he => hj j h e (hin (Nat.le_of_lt h) hlt ▸ he)⟩
    · rintro ⟨-, hlt, hk, hd, hj⟩
      exact ⟨Nat.zero_le k, (hin (Nat.le_refl k) hlt).trans hk, hd, fun j h e he =>
        hj j h e ((hin (Nat.le_of_lt h) hlt).symm.trans he)⟩
  next hs => simp [hs]

/-- R340. -/
theorem Ppu.zeroHit_iff (p : Ppu) : p.zeroHit = true ↔
    p.bgPixel ≠ 0#2 ∧ (∃ d, p.foreground = some (0, d)) ∧ p.zeroPossible = true ∧ p.mask.getLsbD 3 = true ∧
      p.mask.getLsbD 4 = true ∧ ((p.mask.getLsbD 1 = true ∧ p.mask.getLsbD 2 = true) ∨ 9 ≤ p.cycle) := by
  have hz : (p.foreground.isSome = true ∧ p.zeroShown = true) ↔ ∃ d, p.foreground = some (0, d) := by
    unfold Ppu.zeroShown
    cases p.foreground with
    | none => simp
    | some f => simp [Prod.ext_iff]
  rw [← hz]
  unfold Ppu.zeroHit Ppu.renderBg Ppu.renderSpr Ppu.bgLeft Ppu.sprLeft
  simp only [Bool.and_eq_true, Bool.or_eq_true, bne_iff_ne, decide_eq_true_eq, and_assoc]
  tauto

theorem composePixel_zeroHit (s : State) :
    (composePixel s).ppu.status.getLsbD 6 = (s.ppu.status.getLsbD 6 || s.ppu.zeroHit) := by
  change (if s.ppu.zeroHit = true then putBit s.ppu.status zeroHitBit true else s.ppu.status).getLsbD 6 = _
  cases s.ppu.zeroHit
  · simp
  · rw [Bool.or_true]
    exact putBit_getLsbD s.ppu.status (k := zeroHitBit) true 6 (by decide)

/-! The cycles that compose (R344). -/

theorem afterFetch_eq_ite (s : State) :
    afterFetch s = if -1 ≤ s.ppu.scanline ∧ s.ppu.scanline ≤ 239 then fetchWork s else s := by
  by_cases h : s.ppu.fetchLine = true
  · rw [afterFetch_line h, if_pos ((Ppu.fetchLine_iff _).1 h)]
  · rw [afterFetch_blank h, if_neg (mt (Ppu.fetchLine_iff _).2 h)]

/-- R337: a cycle that composes stores its pixel and its flag. -/
theorem ppuClock_composes (h : composes s) :
    (ppuClock s).ppu.frame = (composePixel (afterFetch s)).ppu.frame ∧
    (ppuClock s).ppu.status = (composePixel (afterFetch s)).ppu.status := by
  rw [ppuClock_ppu, advancePosition_proj Ppu.frame fun _ _ _ _ _ => rfl,
    advancePosition_proj Ppu.status fun _ _ _ _ _ => rfl, beforeTick_composes h]
  exact ⟨rfl, rfl⟩

/-- R337: no other cycle stores a pixel. -/
theorem ppuClock_frame_keeps (h : ¬ composes s) : (ppuClock s).ppu.frame = s.ppu.frame := by
  rw [ppuClock_ppu, advancePosition_proj Ppu.frame fun _ _ _ _ _ => rfl]
  by_cases hb : s.ppu.blanks
  · rw [beforeTick_blanks hb]
    rfl
  · rw [beforeTick_idle h hb]
    exact afterFetch_proj Ppu.frame rfl

/-- R340, R323: no other cycle sets the sprite-zero flag, and (-1, 1) clears it. -/
theorem ppuClock_zeroHit_keeps (h : ¬ composes s) :
    (ppuClock s).ppu.status.getLsbD 6 = if s.ppu.clears then false else s.ppu.status.getLsbD 6 := by
  rw [ppuClock_status, if_neg h]
  by_cases hc : s.ppu.clears
  · rw [if_neg (by omega), if_pos hc, afterFetch_clears hc]
    simp
  rw [if_neg hc, afterFetch_status_keeps hc (by simp)]
  split
  · exact putBit_getLsbD _ _ _ (by decide)
  · rfl

/-- Settles O56: the cycle composes after its fetch work, and composition is the numbers of its two layers. -/
theorem pixelStored : Obligations.PixelStored := by
  constructor
  · intro s p q m skip c
    have hm : m = afterFetch s := (afterFetch_eq_ite s).symm
    have hc : (afterFetch s).ppu.cycle = c := afterFetch_cycle s
    have hcomp : composes s ↔ (0 ≤ s.ppu.scanline ∧ s.ppu.scanline ≤ 239) ∧ 1 ≤ c ∧ c ≤ 256 := by
      unfold composes
      rw [hc]
    have hq := ppuClock_end s
    rw [hm]
    refine ⟨afterFetch_scanline s, hc, afterFetch_proj Ppu.frame rfl, ⟨?_, ?_, ?_, ?_, ?_, ?_, ?_⟩,
      fun h0 h239 h1 h256 => ppuClock_composes (hcomp.2 ⟨⟨h0, h239⟩, h1, h256⟩), fun h => ?_⟩
    · exact (congrArg Ppu.shPatLo hq).trans rfl
    · exact (congrArg Ppu.shPatHi hq).trans rfl
    · exact (congrArg Ppu.shAttLo hq).trans rfl
    · exact (congrArg Ppu.shAttHi hq).trans rfl
    · exact (congrArg Ppu.spr hq).trans rfl
    · exact (congrArg Ppu.sprCount hq).trans rfl
    · exact (congrArg Ppu.zeroPossible hq).trans rfl
    have hn : ¬ composes s := fun e => h (by simpa only [and_assoc] using hcomp.1 e)
    exact ⟨ppuClock_frame_keeps hn, ppuClock_zeroHit_keeps hn⟩
  · intro s hv h1 h256 p t key sprite pair bgOn sprOn bit shows
    have hopaque : ∀ d : SpriteSlot, d.pixel = 0#2 ↔ shows d = 0 := fun d => by
      rw [← BitVec.toNat_inj, SpriteSlot.pixel_toNat]
      rfl
    have hpair : (s.ppu.shownPair.1.toNat, s.ppu.shownPair.2.toNat) = pair := Ppu.shownPair_toNat s.ppu
    refine ⟨?_, ?_, SpriteSlot.pixel_toNat, fun k d => ?_, ?_, fun j hj => composePixel_status hj, ?_, fun k hk => ?_, ?_⟩
    · rw [Ppu.bgPixel_toNat]
      simp only [Ppu.bgShown_iff]
      rfl
    · rw [Ppu.bgPalette_toNat]
      simp only [Ppu.bgShown_iff]
      rfl
    · rw [Ppu.foreground_eq_some, Ppu.sprShown_iff]
      simp only [ne_eq, hopaque]
      rfl
    · rw [composePixel_zeroHit, Bool.or_eq_true, Ppu.zeroHit_iff]
    · rw [← hpair, ← paletteAddr_toNat]
      exact cellGet_cellPut_same _ _ _
    · exact cellGet_cellPut_other _ _ hk
    · have hy : s.ppu.scanline ≤ 239 := by
        unfold Ppu.visibleLine at hv
        simp only [Bool.and_eq_true, decide_eq_true_eq] at hv
        exact hv.2
      have hx : s.ppu.cycle - 1 < 256 := Nat.sub_one_lt_of_le h1 h256
      exact pixelKey_lt hx hy

end Sys2Proof.Machine
end

section
/-! O55: sprite evaluation and the pattern load (48_ppu_rendering.md R334 to R336). -/

namespace Sys2Proof.Machine

/-! The pattern address of a sprite whose row is on the line, as a number (R335). -/

section
variable {p : Ppu} {d : SpriteSlot} {row : Nat}

theorem spriteRow_toNat (h : (row : Int) = p.scanline - d.y.toNat) (hr : row < 16) : (spriteRow p d).toNat = row := by
  rw [spriteRow, ← h, BitVec.ofInt_natCast, BitVec.toNat_ofNat]
  omega

/-- A row below 8 under the tile's number and the table. -/
theorem tileAddr_toNat {table r : BitVec 14} {b : Nat} (tile : Byte) (ht : table.toNat = 0x1000 * b) (hr : r.toNat < 8) :
    (table ||| (tile.setWidth 14 <<< 4) ||| r).toNat = 0x1000 * b + 16 * tile.toNat + r.toNat := by
  have := tile.isLt
  rw [BitVec.toNat_or, BitVec.toNat_or, setWidth_shiftLeft_toNat _ _ (by decide), ht,
    or_eq_add 12 (x := 0x1000 * b) (Nat.dvd_mul_right ..) (by omega)]
  exact or_eq_add 3 (by omega) hr

theorem smallSpriteAddr_toNat (h : (row : Int) = p.scanline - d.y.toNat) (hr : row < 8) :
    (smallSpriteAddr p d).toNat = 0x1000 * (p.control.getLsbD 3).toNat + 16 * d.id.toNat +
      (if d.attr.getLsbD 7 then 7 - row else row) := by
  have hrow := spriteRow_toNat h (by omega)
  have ht : (if p.control.getLsbD 3 then 0x1000#14 else 0#14).toNat = 0x1000 * (p.control.getLsbD 3).toNat := by
    cases p.control.getLsbD 3
    · rfl
    · rfl
  have hflip : (if d.attr.getLsbD 7 then (if spriteRow p d ≤ 7#14 then 7#14 - spriteRow p d
      else Config.flippedRowOpen (spriteRow p d)) else spriteRow p d).toNat = if d.attr.getLsbD 7 then 7 - row else row := by
    have hle : spriteRow p d ≤ 7#14 := by bv_omega
    rw [if_pos hle]
    split
    · bv_omega
    · exact hrow
  have hlt : (if d.attr.getLsbD 7 then 7 - row else row) < 8 := by
    split <;> omega
  rw [smallSpriteAddr, tileAddr_toNat d.id ht (hflip ▸ hlt), hflip]

theorem tallSpriteAddr_toNat (h : (row : Int) = p.scanline - d.y.toNat) (hr : row < 16) :
    let line := if d.attr.getLsbD 7 then 15 - row else row
    (tallSpriteAddr p d).toNat = 0x1000 * (d.id.toNat % 2) + 16 * (d.id.toNat / 2 * 2 + line / 8) + line % 8 := by
  intro line
  have hrow := spriteRow_toNat h hr
  have hodd : (d.id &&& 0x01#8).toNat = d.id.toNat % 2 := Nat.and_one_is_mod d.id.toNat
  have heven : (d.id &&& 0xFE#8).toNat = d.id.toNat / 2 * 2 := by
    have he : d.id &&& 0xFE#8 = (d.id >>> 1) <<< 1 := by
      ext i hi
      interval_cases i <;> simp
    have := d.id.isLt
    rw [he, BitVec.toNat_shiftLeft, BitVec.toNat_ushiftRight, Nat.shiftRight_eq_div_pow, Nat.shiftLeft_eq]
    omega
  have htable : ((d.id &&& 0x01#8).setWidth 14 <<< 12).toNat = 0x1000 * (d.id.toNat % 2) := by
    rw [BitVec.toNat_shiftLeft, BitVec.toNat_setWidth_of_le (by decide), hodd, Nat.shiftLeft_eq]
    omega
  have hlow : (spriteRow p d &&& 7#14).toNat = row % 8 := by
    rw [BitVec.toNat_and, hrow]
    exact Nat.and_two_pow_sub_one_eq_mod row 3
  have htop : spriteRow p d < 8#14 ↔ row < 8 := by
    rw [BitVec.lt_def, hrow]
    rfl
  have htile : ((d.id &&& 0xFE#8) + (if xor (decide (spriteRow p d < 8#14)) (d.attr.getLsbD 7) then 0x00#8
      else 0x01#8)).toNat = d.id.toNat / 2 * 2 + line / 8 := by
    have hb : ∀ flip : Bool, (if xor (decide (spriteRow p d < 8#14)) flip then 0x00#8 else 0x01#8).toNat =
        (if flip then 15 - row else row) / 8 := fun flip => by
      by_cases h8 : row < 8
      · cases flip
        · simp [htop, h8]
          omega
        · simp [htop, h8]
          omega
      · cases flip
        · simp [htop, h8]
          omega
        · simp [htop, h8]
          omega
    have hl : line < 16 := by
      unfold line
      split <;> omega
    have := d.id.isLt
    rw [BitVec.toNat_add, heven, hb (d.attr.getLsbD 7)]
    change (_ + line / 8) % 2 ^ 8 = _
    omega
  have hr' : (if d.attr.getLsbD 7 then 7#14 - (spriteRow p d &&& 7#14) else spriteRow p d &&& 7#14).toNat = line % 8 := by
    unfold line
    split
    · rw [BitVec.toNat_sub, hlow]
      change (2 ^ 14 - row % 8 + 7) % 2 ^ 14 = _
      omega
    · exact hlow
  rw [tallSpriteAddr, tileAddr_toNat _ htable (hr' ▸ Nat.mod_lt _ (by decide)), hr', htile]

theorem spriteAddr_toNat (h : (row : Int) = p.scanline - d.y.toNat)
    (hr : row < (if p.control.getLsbD 5 then 16 else 8)) :
    let line := if d.attr.getLsbD 7 then (if p.control.getLsbD 5 then 15 else 7) - row else row
    (spriteAddr p d).toNat = if p.control.getLsbD 5 then
        0x1000 * (d.id.toNat % 2) + 16 * (d.id.toNat / 2 * 2 + line / 8) + line % 8
      else 0x1000 * (p.control.getLsbD 3).toNat + 16 * d.id.toNat + line := by
  unfold spriteAddr Ppu.tallSprites
  by_cases h5 : p.control.getLsbD 5 = true
  · simp only [h5, if_true] at hr ⊢
    exact tallSpriteAddr_toNat h hr
  · simp only [h5] at hr ⊢
    exact smallSpriteAddr_toNat h hr

/-- R335: the high plane does not leave the tables. -/
theorem spriteAddr_high_toNat (h : (row : Int) = p.scanline - d.y.toNat)
    (hr : row < (if p.control.getLsbD 5 then 16 else 8)) :
    (spriteAddr p d + 8#14).toNat = (spriteAddr p d).toNat + 8 := by
  have ha := spriteAddr_toNat h hr
  have hid := d.id.isLt
  have hlt : (spriteAddr p d).toNat < 0x2000 := by
    rw [ha]
    by_cases h5 : p.control.getLsbD 5 = true
    · simp only [h5, if_true] at hr ⊢
      split <;> omega
    · have hb := (p.control.getLsbD 3).toNat_le
      simp only [h5, Bool.false_eq_true, if_false] at hr ⊢
      split <;> omega
  rw [BitVec.toNat_add, show (8#14).toNat = 8 from rfl]
  omega

end

/-- R336. -/
theorem reverse8_getLsbD (b : Byte) {j : Nat} (h : j < 8) : (reverse8 b).getLsbD j = b.getLsbD (7 - j) := by
  rw [reverse8, BitVec.getLsbD_reverse, BitVec.getMsbD]
  simp [h]

/-- R335, R336: the two pattern bytes of a slot. -/
theorem loadSlot_bits (s : State) (d : SpriteSlot) {j : Nat} (h : j < 8) :
    (loadSlot s d).lo.getLsbD j =
      (fetchAt s (spriteAddr s.ppu d)).getLsbD (if d.attr.getLsbD 6 then 7 - j else j) ∧
    (loadSlot s d).hi.getLsbD j =
      (fetchAt s (spriteAddr s.ppu d + 8#14)).getLsbD (if d.attr.getLsbD 6 then 7 - j else j) := by
  unfold loadSlot
  dsimp only
  split
  · exact ⟨reverse8_getLsbD _ h, reverse8_getLsbD _ h⟩
  · exact ⟨rfl, rfl⟩

theorem loadSlot_eq (s : State) (d : SpriteSlot) :
    loadSlot s d = { d with lo := (loadSlot s d).lo, hi := (loadSlot s d).hi } := by
  unfold loadSlot
  dsimp only
  split
  · rfl
  · rfl

/-! Evaluation (R334). -/

theorem Ppu.covers_eq (p : Ppu) (n : Nat) : p.covers n =
    decide ((p.oam.read (4 * n)).toNat ≤ p.scanline ∧
      p.scanline < (p.oam.read (4 * n)).toNat + if p.control.getLsbD 5 then (16 : Int) else 8) := by
  unfold Ppu.covers Ppu.spriteHeight Ppu.tallSprites
  rw [Bool.eq_iff_iff]
  simp only [Bool.and_eq_true, decide_eq_true_eq]
  omega

theorem evaluateSprites_chosen (p : Ppu) {k n : Nat} (hk : k < 8) (h : p.selected[k]? = some n) :
    (evaluateSprites p).spr[k]? = some (p.oamSlot n) := by
  have hc : ((p.selected.take 8).map p.oamSlot)[k]? = some (p.oamSlot n) := by
    rw [List.getElem?_map, List.getElem?_take_of_lt hk, h]
    rfl
  have hlt := (List.getElem?_eq_some_iff.1 hc).1
  exact (List.getElem?_append_left hlt).trans hc

theorem evaluateSprites_empty (p : Ppu) {k : Nat} (hk : k < 8) (h : p.selected.length ≤ k) :
    (evaluateSprites p).spr[k]? = some SpriteSlot.empty := by
  have hl : ((p.selected.take 8).map p.oamSlot).length = p.selected.length := by
    rw [List.length_map, List.length_take]
    omega
  refine (List.getElem?_append_right (hl.trans_le h)).trans ?_
  rw [hl, List.getElem?_replicate, if_pos (by omega)]

theorem evaluateSprites_sprCount (p : Ppu) : (evaluateSprites p).sprCount = min 8 p.selected.length := by
  simp [evaluateSprites]

theorem evaluateSprites_overflow (p : Ppu) :
    (evaluateSprites p).status.getLsbD 5 = (p.status.getLsbD 5 || decide (8 < p.selected.length)) := by
  change (if p.selected.length > 8 then putBit p.status overflowBit true else p.status).getLsbD 5 = _
  by_cases h : 8 < p.selected.length
  · rw [if_pos h, decide_eq_true h, Bool.or_true]
    exact putBit_getLsbD p.status (k := overflowBit) true 5 (by decide)
  · rw [if_neg h, decide_eq_false h, Bool.or_false]

theorem evaluateSprites_zeroPossible (p : Ppu) : (evaluateSprites p).zeroPossible = true ↔ 0 ∈ p.selected := by
  change p.covers 0 = true ↔ _
  simp [Ppu.selected]

/-- R335: a selected slot after the load. -/
theorem loadSpritePatterns_getElem? (s : State) {k : Nat} {d : SpriteSlot} (h : s.ppu.spr[k]? = some d) :
    (loadSpritePatterns s).ppu.spr[k]? = some (if k < s.ppu.sprCount then loadSlot s d else d) := by
  refine (Ppu.mapActive_getElem? _ _ _).trans ?_
  rw [h]
  rfl

/-- Settles O55: the load is one of each slot, evaluation the list of the entries that cover the line. -/
theorem spriteEvaluation : Obligations.SpriteEvaluation := by
  constructor
  · intro s p t
    refine ⟨rfl, mapActive_length _ _, fun k d hd => ⟨fun hk => ?_, fun hk row hrow hr => ?_⟩⟩
    · exact (loadSpritePatterns_getElem? s hd).trans (by rw [if_neg (Nat.not_lt.2 hk)])
    · intro line addr
      have haddr : (spriteAddr s.ppu d).toNat = addr := spriteAddr_toNat hrow hr
      refine ⟨loadSlot s d, (loadSpritePatterns_getElem? s hd).trans (by rw [if_pos hk]), loadSlot_eq s d,
        fun j hj => ?_⟩
      rw [← haddr, ← spriteAddr_high_toNat hrow hr]
      exact loadSlot_bits s d hj
  · intro p h covers chosen q
    have hc : p.selected = chosen := congrArg (fun f => (List.range 64).filter f) (funext p.covers_eq)
    rw [← hc]
    refine ⟨(evaluateSprites_length p).1, evaluateSprites_sprCount p, fun k hk n hn => ?_, fun k hl hk => ?_,
      evaluateSprites_zeroPossible p, evaluateSprites_overflow p, rfl, rfl⟩
    · exact ⟨p.oamSlot n, evaluateSprites_chosen p hk hn, rfl, rfl, rfl, rfl⟩
    · exact evaluateSprites_empty p hk hl

end Sys2Proof.Machine
end
